-- ==== Sys2Proof/Word.lean ====
section
/-! DEFINITION. The widths the manual carries as bits: bytes, 16-bit words, ticks, nibbles, five-bit codes. -/

namespace Sys2Proof

/-- One byte of a festoon frame or of a drop telegram. -/
abbrev Byte := BitVec 8

/-- A 16-bit field of a frame, a telegram or the pin block. -/
abbrev Word16 := BitVec 16

/-- A tick count of the time base: 32 bits, wrapping (R180). -/
abbrev Tick := BitVec 32

/-- One data nibble of a drop line symbol. -/
abbrev Nibble := BitVec 4

/-- One five-bit code on a drop line. -/
abbrev Code5 := BitVec 5

end Sys2Proof
end

