-- ==== Sys2Proof/Syntax.lean ====
section
/-! DEFINITION. The commands of the block: one constructor of `Instr` for each row of spec/opcode_table.json. -/

namespace Sys2Proof

/-- A drop line: line 0 serves CAB, line 1 SPR-A, line 2 SPR-B. -/
inductive LineNo where
  | line0 | line1 | line2
  deriving DecidableEq, Repr

/-- A point id, 0 to 255. -/
abbrev PointId := Fin 256

/-- An interlock entry's index, 0 to 47. -/
abbrev EntryIx := Fin 48

/-- The causes of R162 that a single character shows. -/
inductive FrameFault where
  | framing | length | check
  deriving DecidableEq, Repr

/-- What R103 and R104 find in a telegram that is discarded as bad. -/
inductive BadCause where
  | invalidCode    -- R103 case 1
  | openInside     -- R103 case 2: the discarding OPEN begins a new telegram
  | fillInside     -- R103 case 3: the discarding FILL clears the silence count
  | abortInside    -- R103 case 4
  | badKind        -- R103 case 5
  | overrun        -- R103 case 6
  | badLength      -- R104 cases 1 and 2
  | badCheck       -- R104 case 3
  deriving DecidableEq, Repr

/-- The commands. A request row carries the tag and the parameter bytes of an intact festoon frame whose code is the
request's; a row of a line names its line; an event on a pin, a pair or the festoon carries what arrives there. -/
inductive Instr where
  | definePoint (tag : Byte) (params : List Byte)        -- 0x10, R24
  | clearPoint (tag : Byte) (params : List Byte)         -- 0x11, R25
  | readPoints (tag : Byte) (params : List Byte)         -- 0x12, R26
  | setOutputs (tag : Byte) (params : List Byte)         -- 0x13, R27
  | force (tag : Byte) (params : List Byte)              -- 0x14, R73
  | release (tag : Byte) (params : List Byte)            -- 0x15, R76
  | setPins (tag : Byte) (params : List Byte)            -- 0x16, R20
  | defineInterlock (tag : Byte) (params : List Byte)    -- 0x20, R65
  | clearInterlock (tag : Byte) (params : List Byte)     -- 0x21, R66
  | readInterlock (tag : Byte) (params : List Byte)      -- 0x22, R67
  | acknowledge (tag : Byte) (params : List Byte)        -- 0x23, R68
  | readLine (tag : Byte) (params : List Byte)           -- 0x31, R130
  | setLine (tag : Byte) (params : List Byte)            -- 0x30, R112
  | restartLine (tag : Byte) (params : List Byte)        -- 0x32, R128
  | serviceOpen (tag : Byte) (params : List Byte)        -- 0x33, R81
  | serviceTransfer (tag : Byte) (params : List Byte)    -- 0x34, R84
  | serviceClose (tag : Byte) (params : List Byte)       -- 0x35, R88
  | setReporting (tag : Byte) (params : List Byte)       -- 0x40, R154
  | readChanges (tag : Byte) (params : List Byte)        -- 0x41, R157
  | reportHold (tag : Byte) (params : List Byte)         -- 0x42, R167
  | echo (tag : Byte) (params : List Byte)               -- 0x01, R168
  | readDevice (tag : Byte) (params : List Byte)         -- 0x02, R169
  | reset (tag : Byte) (params : List Byte)              -- 0x03, R170
  | start (tag : Byte) (params : List Byte)              -- 0x04, R173
  | stop (tag : Byte) (params : List Byte)               -- 0x05, R175
  | enterSafe (tag : Byte) (params : List Byte)          -- 0x06, R176
  | resume (tag : Byte) (params : List Byte)             -- 0x07, R177
  | setMonitor (tag : Byte) (params : List Byte)         -- 0x08, R178
  | unknown (code tag : Byte) (params : List Byte)       -- a code the part does not assign, R163
  | frameDiscard (cause : FrameFault)                    -- R162
  | gap (idleBits : Nat)                                 -- so many bit times of idle line, R162
  | replyTransmit                                        -- R166
  | waitingReplyQueued                                   -- R165
  | reportFrame                                          -- R156
  | frameTransmitted                                     -- R166
  | reportHoldExpiry                                     -- R167
  | commandReset                                         -- R181
  | powerOnReset (rate : Fin 8) (parity : Fin 4)         -- with the strap levels sampled, R181
  | pinReset                                             -- R181
  | pinResetRelease (rate : Fin 8) (parity : Fin 4)      -- with the strap levels sampled, R181
  | silenceExpiry                                        -- R179
  | pinSample (levels : Word16)                          -- bit k is the level on pin Pk, R22
  | releaseTimerExpiry (entry : EntryIx)                 -- R53
  | pollTimerExpiry (line : LineNo)                      -- R116
  | shutSent (line : LineNo)                             -- R119
  | turnEnd (line : LineNo)                              -- R105
  | replyTimerExpiry (line : LineNo)                     -- R119
  | openReceived (line : LineNo)                         -- R102
  | reply (line : LineNo) (seq : Nibble) (body : List Byte)            -- the bytes between header and check word, R120
  | serviceReply (line : LineNo) (seq : Nibble) (payload : List Byte)  -- R85
  | badTelegram (line : LineNo) (cause : BadCause)       -- R103
  | beacon (line : LineNo) (seq : Nibble) (w0 w1 w2 w3 : Word16)       -- the four identity words, R135
  | holdTimerExpiry (line : LineNo)                      -- R87
  | dwellTimerExpiry (line : LineNo)                     -- R96
  | lock (line : LineNo) (bits : List Bool)              -- the bits the hunt examines, in order of arrival, R97
  | lockLoss (line : LineNo)                             -- R100
  | characterReceived (value : Byte) (parityBit stopBit : Bool)        -- R160, R161
  | symbolReceived (line : LineNo) (code : Code5)        -- the five bits cut from the pair, R101
  | frameTurnedAway                                      -- R163
  deriving DecidableEq, Repr

end Sys2Proof
end

