-- ==== Sys2Proof/Decode.lean ====
section
/-! DEFINITION. The decoder of the table's bits. No row of spec/opcode_table.json gives bits, so no word spells a command. -/

namespace Sys2Proof

/-- The command that a word of `nbits` bits spells by the bits of spec/opcode_table.json. The table gives bits for none of
its 59 rows (its "fixed" and "fields" are empty), so every word spells none. A command's bytes on the festoon are read by
the receive framer (`Machine.execCharacterReceived`), not here. -/
def decodeTableWord (_nbits _w : Nat) : Option Instr :=
  none

end Sys2Proof
end

