-- ==== Sys2Proof/Config.lean ====
section
/-! DEFINITION. What the manual leaves to the part: the silicon's revision, and the one value it does not state. -/

namespace Sys2Proof

/-- The revision code of the silicon that READ DEVICE returns: 0 to 255, constant for a given part (R169). -/
opaque Config.revision : Byte

/-- FREE VALUE (log entry 6): the 16 bits READ DEVICE sends for a remaining report hold whose milliseconds, rounded up,
do not fit its 16-bit field (65535 ms just started is 65536 ms by R169's rounding). -/
opaque Config.holdBeyondField : Nat → Word16

end Sys2Proof
end

