-- ==== Sys2Proof/Machine/Bytes.lean ====
section
/-! DEFINITION. Byte order, two's complement, the check word, and the conversions between times and ticks. -/

namespace Sys2Proof.Machine

/-- A 16-bit field, most significant byte first (conventions, R183). -/
def wordBytes (w : Word16) : List Byte :=
  [w.extractLsb' 8 8, w.extractLsb' 0 8]

/-- An unsigned 16-bit field. -/
def natBytes (n : Nat) : List Byte :=
  wordBytes (BitVec.ofNat 16 n)

/-- A signed 16-bit field in two's complement. -/
def intBytes (v : Int) : List Byte :=
  wordBytes (BitVec.ofInt 16 v)

/-- A tick count: four bytes, most significant first. -/
def tickBytes (t : Tick) : List Byte :=
  [t.extractLsb' 24 8, t.extractLsb' 16 8, t.extractLsb' 8 8, t.extractLsb' 0 8]

/-- An 8-bit count, setting or index. -/
def byteOf (n : Nat) : Byte :=
  BitVec.ofNat 8 n

/-- A flag: 0 off, 1 on (R183). -/
def flagByte (b : Bool) : Byte :=
  if b then 1 else 0

/-- The word made of two bytes, the first more significant. -/
def wordOf (hi lo : Byte) : Word16 :=
  hi ++ lo

/-- The byte at a place of the parameters; 0 beyond their end, where the length checks let nothing read. -/
def byteAt (ps : List Byte) (i : Nat) : Byte :=
  ps.getD i 0

/-- The unsigned 16-bit field at a place of the parameters. -/
def natAt (ps : List Byte) (i : Nat) : Nat :=
  (wordOf (byteAt ps i) (byteAt ps (i + 1))).toNat

/-- The signed 16-bit field at a place of the parameters. -/
def intAt (ps : List Byte) (i : Nat) : Int :=
  (wordOf (byteAt ps i) (byteAt ps (i + 1))).toInt

/-- One end-around addition of 16-bit words: a carry out of bit 15 is added back into bit 0 (R182). -/
def addEndAround (a b : Nat) : Nat :=
  if a + b < 65536 then a + b else a + b - 65535

/-- The covered bytes in pairs, the first of each pair more significant, an odd last byte padded with 0x00 (R182). -/
def bytePairs : List Byte → List Nat
  | [] => []
  | [b] => [b.toNat * 256]
  | b :: c :: rest => (b.toNat * 256 + c.toNat) :: bytePairs rest

/-- The ones'-complement sum S of R182. -/
def checkSum (covered : List Byte) : Nat :=
  (bytePairs covered).foldl addEndAround 0

/-- The check word C a sender transmits (R182). -/
def checkWord (covered : List Byte) : Word16 :=
  let c := 65535 - checkSum covered
  if c = 0 then 0xFFFF else BitVec.ofNat 16 c

/-- The acceptance test of R182. -/
def checkAccepts (covered : List Byte) (c : Word16) : Bool :=
  65535 - checkSum covered == c.toNat || (65535 - checkSum covered == 0 && c == 0xFFFF)

/-- The last two bytes of a message, as its check word, and the bytes before them. -/
def splitCheck (bytes : List Byte) : List Byte × Word16 :=
  let n := bytes.length - 2
  (bytes.take n, wordOf (byteAt bytes n) (byteAt bytes (n + 1)))

/-- Milliseconds in ticks of 1/32768 s, rounded up (conventions). -/
def ticksOfMs (ms : Nat) : Nat :=
  (ms * 32768 + 999) / 1000

/-- Microseconds in ticks, rounded up (R113). -/
def ticksOfUs (us : Nat) : Nat :=
  (us * 32768 + 999999) / 1000000

/-- Ticks in milliseconds, rounded up (R67, R169). -/
def msOfTicks (t : Nat) : Nat :=
  (t * 1000 + 32767) / 32768

/-- A count increased by one that saturates at its maximum (conventions). -/
def saturate (max n : Nat) : Nat :=
  min (n + 1) max

/-- A number brought into a range. -/
def clampNat (lo hi n : Nat) : Nat :=
  if n < lo then lo else if hi < n then hi else n

end Sys2Proof.Machine
end

