-- ==== Sys2Proof/Machine/State.lean ====
section
/-! DEFINITION. The whole state of the TQ340 as plain data, and the state right after a power-on reset. -/

namespace Sys2Proof.Machine

/-- The block stops on no fault: a refused request is answered with a status, and a bad frame or telegram is discarded and
counted. The type therefore has no constructor, and no meaning raises a fault (safe). -/
inductive Fault where
  deriving DecidableEq, Repr

/-- Why a command has no meaning. -/
inductive Refusal where
  /-- Raised by `exec` alone, for a command of the table whose meaning is not written yet (safe: nothing follows). No arm of
  `exec` raises it in this model. -/
  | notModelled (mnemonic : String)
  deriving DecidableEq, Repr

/-! ### The Mode Controller (R172, R180) -/

/-- The device mode. -/
inductive Mode where
  | config | run | safe
  deriving DecidableEq, Repr

/-- The safe action. -/
inductive SafeAction where
  | drop | hold
  deriving DecidableEq, Repr

/-- The cause of the most recent SAFE entry since reset. -/
inductive SafeCause where
  | none | silence | request
  deriving DecidableEq, Repr

/-- An entity's pending mark and pending count, kept for the Change Queue (R147). -/
structure Pending where
  marked : Bool
  count : Nat
  deriving DecidableEq, Repr

/-- No mark, count 0. -/
def Pending.clear : Pending := ⟨false, 0⟩

/-- The Mode Controller, with the time base, the straps as sampled, the pin reset's hold, and the device's pending mark. -/
structure Device where
  mode : Mode
  safeAction : SafeAction
  lastCause : SafeCause
  /-- 0, or 50 to 5000 ms. -/
  silenceLimit : Nat
  /-- Stopped, or the ticks left. -/
  silenceTimer : Option Nat
  tick : Tick
  rateStrap : Fin 8
  parityStrap : Fin 4
  /-- The reset input is held low: the part stays in reset (R181). -/
  inReset : Bool
  pending : Pending
  deriving DecidableEq, Repr

/-! ### Local pins (R19, R22) -/

/-- The Local Pin Block: bit k of each word is pin Pk. A direction bit of 1 is OUT. -/
structure Pins where
  direction : Word16
  resetLevel : Word16
  sampled : Word16
  /-- The pin sample timer: stopped, or the ticks left. -/
  timer : Option Nat
  deriving DecidableEq, Repr

/-! ### The Point Table (section 1.1) -/

/-- The four stations. -/
inductive Station where
  | cab | sprA | sprB | trolley
  deriving DecidableEq, Repr

/-- The seven qualities. -/
inductive Quality where
  | unseen | settling | good | bad | stale | held | lost
  deriving DecidableEq, Repr

/-- The range flag of an engineering value. -/
inductive RangeFlag where
  | none | over | under
  deriving DecidableEq, Repr

/-- A station and a channel on it; absent for SUM and DIFF points. -/
structure Place where
  station : Station
  channel : Nat
  deriving DecidableEq, Repr

/-- What a DI point adds to the common fields. -/
structure DiFields where
  depth : Nat
  candidate : Option Bool
  run : Nat
  qualified : Bool
  deriving DecidableEq, Repr

/-- What a DO point adds to the common fields. `held` is the held value of R60. -/
structure DoFields where
  fail : Bool
  commanded : Bool
  effective : Bool
  lastSent : Bool
  mismatch : Nat
  held : Option Bool
  deriving DecidableEq, Repr

/-- The fields that AI, SUM and DIFF points share. -/
structure Analog where
  lo : Int
  hi : Int
  deadband : Nat
  value : Int
  range : RangeFlag
  lastRecorded : Int
  deriving DecidableEq, Repr

/-- What an AI point adds to the common fields. -/
structure AiFields where
  zero : Nat
  gain : Int
  offset : Int
  settle : Nat
  validRun : Nat
  analog : Analog
  deriving DecidableEq, Repr

/-- The two kinds of derived point. -/
inductive DerivedKind where
  | sum | diff
  deriving DecidableEq, Repr

/-- What a SUM or DIFF point adds to the common fields. -/
structure DerivedFields where
  kind : DerivedKind
  sourceA : PointId
  sourceB : PointId
  analog : Analog
  deriving DecidableEq, Repr

/-- The kind of a point with the fields of that kind. -/
inductive PointBody where
  | di (f : DiFields)
  | dout (f : DoFields)
  | ai (f : AiFields)
  | derived (f : DerivedFields)
  deriving DecidableEq, Repr

/-- One defined point record. -/
structure Point where
  place : Option Place
  report : Bool
  quality : Quality
  confirmed : Bool
  forced : Bool
  pending : Pending
  lastChange : Tick
  body : PointBody
  deriving DecidableEq, Repr

/-! ### The Force List (R71) -/

/-- One entry of the Force List. -/
structure ForceEntry where
  point : PointId
  value : Int
  range : RangeFlag
  deriving DecidableEq, Repr

/-! ### Interlock entries (R43, R44) -/

/-- The test of a term. -/
inductive Test where
  | isOn | isOff | above | below
  deriving DecidableEq, Repr

/-- The latch of a term. -/
inductive Latch where
  | latchFalse | latchTrue | latchUnknown
  deriving DecidableEq, Repr

/-- One term of an interlock entry. -/
structure Term where
  point : PointId
  test : Test
  threshold : Int
  hysteresis : Nat
  latch : Latch
  deriving DecidableEq, Repr

/-- The cause of an entry (R45). -/
inductive Cause where
  | none
  | failing (term : Nat)
  | unusable (term : Nat)
  deriving DecidableEq, Repr

/-- The state of an entry (section 3.3). -/
inductive EntryState where
  | blocked | releasing | permit | latched
  deriving DecidableEq, Repr

/-- One defined interlock entry. -/
structure Entry where
  target : PointId
  latching : Bool
  /-- In ms, as taken. -/
  delay : Nat
  terms : List Term
  state : EntryState
  cause : Cause
  /-- The release timer: stopped, or the ticks left. -/
  timer : Option Nat
  pending : Pending
  deriving DecidableEq, Repr

/-! ### Drop lines (5.1, R108 to R134, R80) -/

/-- A bit rate of a drop line. -/
inductive Rate where
  | r250k | r1M | r2M
  deriving DecidableEq, Repr

/-- The polarity setting. -/
inductive PolaritySetting where
  | auto | normal
  deriving DecidableEq, Repr

/-- A detected polarity. -/
inductive Polarity where
  | normal | reversed
  deriving DecidableEq, Repr

/-- The settings of a line (R111). A rate of `none` is AUTO. -/
structure LineSettings where
  enable : Bool
  rate : Option Rate
  polarity : PolaritySetting
  pollPeriod : Nat
  replyTimeout : Nat
  retryLimit : Nat
  staleLimit : Nat
  lossLimit : Nat
  diBytes : Nat
  doBytes : Nat
  aiChannels : Nat
  expectedType : Byte
  exact : Bool
  serial : Byte
  holdLimit : Nat
  deriving DecidableEq, Repr

/-- The line state (section 6.1). -/
inductive LineState where
  | off | acquire | awaitBeacon | operate | service | rejected
  deriving DecidableEq, Repr

/-- The lock state. -/
inductive LockState where
  | acquire | locked
  deriving DecidableEq, Repr

/-- The receiver: OUTSIDE, or INSIDE with the data nibbles taken since OPEN. The kind is the first nibble, and the expected
length follows from the kind and the settings (R102). ABANDONING is INSIDE with no nibble taken, after the closing of the transfer
whose reply the telegram may be: its symbols are strays if they are that reply's (R89). -/
inductive Receiver where
  | outside
  | inside (nibbles : List Nibble)
  | abandoning
  deriving DecidableEq, Repr

/-- The data nibbles taken since OPEN, with the receiver INSIDE. -/
def Receiver.taken : Receiver → Option (List Nibble)
  | .outside => none
  | .inside nibbles => some nibbles
  | .abandoning => some []

/-- The two telegrams the part sends. -/
inductive TelegramKind where
  | poll | service
  deriving DecidableEq, Repr

/-- A telegram handed to the sender: its header and body; the sender appends the check word (R105). -/
structure Telegram where
  kind : TelegramKind
  seq : Nibble
  body : List Byte
  deriving DecidableEq, Repr

/-- How far a turn has come, as R106 distinguishes it: `leadIn n` has n symbols still to go until OPEN has been sent. -/
inductive SendPhase where
  | leadIn (left : Nat)
  | body
  | tail
  deriving DecidableEq, Repr

/-- The sender (section 5.1). -/
inductive Sender where
  | idle
  | waiting (t : Telegram)
  | sending (t : Telegram) (phase : SendPhase)
  | aborting
  deriving DecidableEq, Repr

/-- The phase of the present attempt (R117). -/
inductive AttemptPhase where
  | sending | awaiting | receiving
  deriving DecidableEq, Repr

/-- The exchange in flight (R117). -/
structure Exchange where
  attempt : Nat
  seq : Nibble
  phase : AttemptPhase
  deriving DecidableEq, Repr

/-- A drop station's identity (R134). -/
structure Identity where
  type : Byte
  serial : Byte
  deriving DecidableEq, Repr

/-- The service state (R80). -/
inductive ServiceState where
  | none | pending | granted
  deriving DecidableEq, Repr

/-- The statuses of R164. -/
inductive Status where
  | ok | pending | unknown | badLength | badValue | noSuch | mode | lineState | busy | noRoom | notClear | conflict
  | timeout | closed
  deriving DecidableEq, Repr

/-- A reply frame: code, tag, status byte and the parameters after it (R164). -/
structure Reply where
  code : Byte
  tag : Byte
  status : Status
  data : List Byte
  deriving DecidableEq, Repr

/-- The progress of a service transfer (R80). -/
inductive TransferProgress where
  | sending | awaiting | receiving
  | finished (reply : Reply)
  deriving DecidableEq, Repr

/-- The transfer in a line's slot (R80). -/
structure Transfer where
  tag : Byte
  seq : Nibble
  payload : List Byte
  progress : TransferProgress
  deriving DecidableEq, Repr

/-- One Drop Line Engine. -/
structure Line where
  settings : LineSettings
  state : LineState
  -- signalling (5.1)
  lock : LockState
  huntRate : Rate
  dwell : Option Nat
  straightRuns : Vector Nat 5
  complementRuns : Vector Nat 5
  /-- The bits the hunt has in view, at most the five most recent, oldest first (R97). -/
  huntBits : List Bool
  /-- The position, modulo 5, of the next bit (R97). -/
  huntPos : Fin 5
  lockedRate : Option Rate
  polarity : Option Polarity
  alignment : Fin 5
  silence : Nat
  receiver : Receiver
  sender : Sender
  /-- A telegram handed over while another turn has not ended (DESIGN CHOICE, log entry 9). -/
  nextTelegram : Option Telegram
  -- exchange (chapter 6)
  pollTimer : Option Nat
  accumulator : Nat
  exchange : Option Exchange
  replyTimer : Option Nat
  /-- An expiry of the reply timer is held until the telegram being received ends (R119, R85). -/
  expiryHeld : Bool
  sequence : Nibble
  failures : Nat
  badTelegrams : Nat
  timeouts : Nat
  slips : Nat
  -- attach fields (R134)
  lastAttached : Option Identity
  restartCount : Nat
  lastBeacon : Option Identity
  beaconDiscards : Nat
  -- service window (R80)
  service : ServiceState
  holdTimer : Option Nat
  transfer : Option Transfer
  -- kept for the Change Queue (R147)
  pending : Pending
  deriving DecidableEq, Repr

/-- The three drop lines. -/
structure Lines where
  line0 : Line
  line1 : Line
  line2 : Line
  deriving DecidableEq, Repr

/-! ### The Change Queue (R147, R148, R154) -/

/-- The key of an entity. -/
inductive Key where
  | device
  | line (l : LineNo)
  | interlock (i : EntryIx)
  | point (p : PointId)
  deriving DecidableEq, Repr

/-- A record's state payload (R148). -/
inductive Payload where
  | device (mode : Mode) (cause : SafeCause) (action : SafeAction)
  | line (state : LineState) (rate : Option Rate) (polarity : Option Polarity) (attached : Option Identity) (restarts : Nat)
  | interlock (state : EntryState) (cause : Cause)
  | point (quality : Quality) (forced : Bool) (range : RangeFlag) (value : Int)
  deriving DecidableEq, Repr

/-- One change record. -/
structure Record where
  key : Key
  payload : Payload
  fold : Nat
  time : Tick
  deriving DecidableEq, Repr

/-- The class enables (R154). -/
structure Classes where
  line : Bool
  interlock : Bool
  device : Bool
  deriving DecidableEq, Repr

/-! ### The Festoon Port (chapter 9) -/

/-- The receive framer: HUNT, or inside a frame with the bytes taken after the start byte and the idle bit times since the
last stop bit. The first byte taken is the frame's length. -/
inductive Framer where
  | hunt
  | inside (bytes : List Byte) (gapBits : Nat)
  deriving DecidableEq, Repr

/-- The five discard counts (R162). -/
structure Discards where
  framing : Nat
  gap : Nat
  length : Nat
  check : Nat
  noRoom : Nat
  deriving DecidableEq, Repr

/-- A reply that waits for room in the reply queue: a line's deferred reply, which stays in the line's slot, or the held
request reply (R165). -/
inductive Waiter where
  | line (l : LineNo)
  | request (r : Reply)
  deriving DecidableEq, Repr

/-- The transmitter (R166). -/
inductive Transmitter where
  | idle
  | reply (r : Reply)
  | report (records : List Record)
  deriving DecidableEq, Repr

/-- The Festoon Port. -/
structure Port where
  framer : Framer
  discards : Discards
  replies : List Reply
  /-- The waiting lines and the held request reply, in the order they began to wait. -/
  waiting : List Waiter
  heldReset : Option Reply
  /-- A RESET has been taken since the last reset (R170). -/
  closed : Bool
  transmitter : Transmitter
  reportEnable : Bool
  /-- The report hold timer: stopped, or the ticks left. -/
  reportHold : Option Nat
  deriving DecidableEq, Repr

/-! ### The state -/

/-- Everything the manual gives the TQ340, and the queue of the commands that wait. Points and interlock entries are the
defined ones, in strictly ascending id and index. -/
structure State where
  dev : Device
  pins : Pins
  points : List (PointId × Point)
  forces : List ForceEntry
  entries : List (EntryIx × Entry)
  lines : Lines
  queue : List Record
  classes : Classes
  port : Port
  pending : List Instr
  deriving DecidableEq, Repr

/-- The settings of a line after every reset (R111). -/
def LineSettings.reset : LineSettings where
  enable := false
  rate := none
  polarity := .auto
  pollPeriod := 1000
  replyTimeout := 500
  retryLimit := 1
  staleLimit := 3
  lossLimit := 8
  diBytes := 0
  doBytes := 0
  aiChannels := 0
  expectedType := 0
  exact := false
  serial := 0
  holdLimit := 2000

/-- A line after every reset (R80, R92, R111, R131, R134, R147). -/
def Line.reset : Line where
  settings := LineSettings.reset
  state := .off
  lock := .acquire
  huntRate := .r2M
  dwell := none
  straightRuns := Vector.replicate 5 0
  complementRuns := Vector.replicate 5 0
  huntBits := []
  huntPos := 0
  lockedRate := none
  polarity := none
  alignment := 0
  silence := 0
  receiver := .outside
  sender := .idle
  nextTelegram := none
  pollTimer := none
  accumulator := 0
  exchange := none
  replyTimer := none
  expiryHeld := false
  sequence := 0
  failures := 0
  badTelegrams := 0
  timeouts := 0
  slips := 0
  lastAttached := none
  restartCount := 0
  lastBeacon := none
  beaconDiscards := 0
  service := .none
  holdTimer := none
  transfer := none
  pending := Pending.clear

/-- The port after every reset (R171). -/
def Port.reset : Port where
  framer := .hunt
  discards := ⟨0, 0, 0, 0, 0⟩
  replies := []
  waiting := []
  heldReset := none
  closed := false
  transmitter := .idle
  reportEnable := false
  reportHold := none

/-- The Mode Controller after a reset that leaves the straps at the given levels (R172, R180). -/
def Device.reset (rate : Fin 8) (parity : Fin 4) : Device where
  mode := .config
  safeAction := .drop
  lastCause := .none
  silenceLimit := 0
  silenceTimer := none
  tick := 0
  rateStrap := rate
  parityStrap := parity
  inReset := false
  pending := Pending.clear

/-- The pins after a power-on reset: every pin IN, reset level 0, sampled level 0 (R19, R22). -/
def Pins.reset : Pins := ⟨0, 0, 0, none⟩

/-- The machine right after a power-on reset. DESIGN CHOICE (log entry 1, unsafe): the strap pins, which the reset samples
from the board, are taken at 0 (57,600 bit/s, no parity). -/
def State.reset : State where
  dev := Device.reset 0 0
  pins := Pins.reset
  points := []
  forces := []
  entries := []
  lines := ⟨Line.reset, Line.reset, Line.reset⟩
  queue := []
  classes := ⟨true, true, true⟩
  port := Port.reset
  pending := []

end Sys2Proof.Machine
end

