-- ==== Sys2Proof/Machine/Flags.lean ====
section
/-! DEFINITION. The computed flags: scaling and the range flag, the deadband test, usability and the order of qualities,
term latches and causes. -/

namespace Sys2Proof.Machine

/-! ### Scaling (R29 to R32) -/

/-- The rounded quotient q of R30: p / 256 to the nearest integer, halves away from zero. -/
def roundQuotient (p : Int) : Int :=
  let q : Int := (((p.natAbs + 128) / 256 : Nat) : Int)
  if p < 0 then -q else q

/-- The value v of R31, from the raw code (R29 to R31). -/
def scaleRaw (f : AiFields) (raw : Nat) : Int :=
  roundQuotient (((raw : Int) - (f.zero : Int)) * f.gain) + f.offset

/-- The clamp of R32: the engineering value and the range flag of a candidate. -/
def clampRange (lo hi v : Int) : Int × RangeFlag :=
  if v < lo then (lo, .under) else if hi < v then (hi, .over) else (v, .none)

/-- An analog record that takes a candidate through the clamp (R32). -/
def Analog.take (a : Analog) (v : Int) : Analog :=
  { a with value := (clampRange a.lo a.hi v).1, range := (clampRange a.lo a.hi v).2 }

/-- The initial engineering value of R2: 0 clamped to the limits. -/
def initialValue (lo hi : Int) : Int :=
  (clampRange lo hi 0).1

/-- The fresh analog fields of a newly defined point (R2). -/
def Analog.initial (lo hi : Int) (deadband : Nat) : Analog :=
  ⟨lo, hi, deadband, initialValue lo hi, .none, initialValue lo hi⟩

/-- The deadband test of R34, of a new value against the last recorded one. -/
def Analog.passes (a : Analog) (v : Int) : Bool :=
  if a.deadband = 0 then v ≠ a.lastRecorded else a.deadband ≤ (v - a.lastRecorded).natAbs

/-- What one computation changes that R33 and R34 report: the range flag, or a value that passes the deadband. -/
def Analog.reportable (old new : Analog) : Bool :=
  old.range ≠ new.range || (old.value ≠ new.value && old.passes new.value)

/-! ### Qualities (section 1.2) -/

/-- The rank of a quality in the order GOOD, SETTLING, BAD, STALE, HELD, LOST, UNSEEN, from best to worst. -/
def Quality.rank : Quality → Nat
  | .good => 0
  | .settling => 1
  | .bad => 2
  | .stale => 3
  | .held => 4
  | .lost => 5
  | .unseen => 6

/-- The worse of two qualities (R39). -/
def Quality.worse (a b : Quality) : Quality :=
  if a.rank < b.rank then b else a

/-- A point is usable when its quality is GOOD or its forced flag is set (R3). -/
def Point.usable (p : Point) : Bool :=
  p.quality = .good || p.forced

/-- The quality a valid sample leaves, by the confirmed flag (R5). -/
def qualityOfConfirmed (confirmed : Bool) : Quality :=
  if confirmed then .good else .settling

/-- The analog fields of a point, absent for DI and DO. -/
def Point.analog? (p : Point) : Option Analog :=
  match p.body with
  | .ai f => some f.analog
  | .derived f => some f.analog
  | .di _ => none
  | .dout _ => none

/-- A discrete level as a presented value. -/
def levelValue (b : Bool) : Int :=
  if b then 1 else 0

/-- The value a point presents when it is not forced (R3). -/
def Point.ownValue (p : Point) : Int :=
  match p.body with
  | .di f => levelValue f.qualified
  | .dout f => levelValue f.effective
  | .ai f => f.analog.value
  | .derived f => f.analog.value

/-- The range flag a point presents when it is not forced: NONE for DI and DO. -/
def Point.ownRange (p : Point) : RangeFlag :=
  match p.body with
  | .di _ => .none
  | .dout _ => .none
  | .ai f => f.analog.range
  | .derived f => f.analog.range

/-! ### Terms and causes (R44 to R49) -/

/-- The latch a test leaves on a usable point that presents `v`, from the latch before it (R47 to R49). -/
def testLatch (t : Test) (threshold : Int) (hysteresis : Nat) (before : Latch) (v : Int) : Latch :=
  let holds : Bool :=
    match t, before with
    | .isOn, _ => v = 1
    | .isOff, _ => v = 0
    | .above, .latchTrue => threshold - hysteresis ≤ v
    | .above, _ => threshold ≤ v
    | .below, .latchTrue => v ≤ threshold + hysteresis
    | .below, _ => v ≤ threshold
  if holds then .latchTrue else .latchFalse

/-- The cause of R45 from the latches of the terms, numbering them from `n`. -/
def causeFrom (n : Nat) : List Term → Cause
  | [] => .none
  | t :: rest =>
    match t.latch with
    | .latchTrue => causeFrom (n + 1) rest
    | .latchFalse => .failing n
    | .latchUnknown => .unusable n

/-- The cause of R45: the first term whose latch is not TRUE. -/
def causeOf (terms : List Term) : Cause :=
  causeFrom 0 terms

/-- Every latch of the terms is TRUE. -/
def allTrue (terms : List Term) : Bool :=
  terms.all fun t => t.latch = .latchTrue

/-- A test suits a point by its kind (R44); that a DO is targeted by no entry is checked apart. -/
def testSuits (t : Test) (b : PointBody) : Bool :=
  match t, b with
  | .isOn, .di _ | .isOn, .dout _ | .isOff, .di _ | .isOff, .dout _ => true
  | .above, .ai _ | .above, .derived _ | .below, .ai _ | .below, .derived _ => true
  | _, _ => false

end Sys2Proof.Machine
end

