-- ==== Sys2Proof/Machine/Formats.lean ====
section
/-! DEFINITION. The layouts of chapter 11: symbols, telegrams on the pair, code values, frames, change records. -/

namespace Sys2Proof.Machine

/-! ### Symbols (11.1, R95) -/

/-- A symbol of a drop line, as a receiver reads a five-bit code. -/
inductive Symbol where
  | fill | open | shut | abort
  | data (n : Nibble)
  | invalid
  deriving DecidableEq, Repr

/-- The code of a data nibble (11.1). -/
def nibbleCode (n : Nibble) : Code5 :=
  match n.toNat with
  | 0 => 0b00101
  | 1 => 0b00110
  | 2 => 0b01001
  | 3 => 0b01010
  | 4 => 0b01011
  | 5 => 0b01100
  | 6 => 0b01101
  | 7 => 0b01110
  | 8 => 0b10001
  | 9 => 0b10010
  | 10 => 0b10011
  | 11 => 0b10100
  | 12 => 0b10110
  | 13 => 0b11001
  | 14 => 0b11010
  | _ => 0b11100

/-- The code of FILL. -/
def fillCode : Code5 := 0b10101

/-- The symbol a five-bit code stands for; the twelve patterns not listed are invalid (11.1). -/
def symbolOf (c : Code5) : Symbol :=
  match c.toNat with
  | 0b10101 => .fill
  | 0b11000 => .open
  | 0b00011 => .shut
  | 0b00111 => .abort
  | 0b00101 => .data 0
  | 0b00110 => .data 1
  | 0b01001 => .data 2
  | 0b01010 => .data 3
  | 0b01011 => .data 4
  | 0b01100 => .data 5
  | 0b01101 => .data 6
  | 0b01110 => .data 7
  | 0b10001 => .data 8
  | 0b10010 => .data 9
  | 0b10011 => .data 10
  | 0b10100 => .data 11
  | 0b10110 => .data 12
  | 0b11001 => .data 13
  | 0b11010 => .data 14
  | 0b11100 => .data 15
  | _ => .invalid

/-- The code a symbol is sent as. -/
def codeOf : Symbol → Code5
  | .fill => fillCode
  | .open => 0b11000
  | .shut => 0b00011
  | .abort => 0b00111
  | .data n => nibbleCode n
  | .invalid => 0

/-- A code as it stands on the pair, or as it is read from it: inverted under REVERSED (R99). -/
def pairCode (polarity : Option Polarity) (c : Code5) : Code5 :=
  if polarity = some .reversed then ~~~c else c

/-- A byte as two data symbols, the high nibble first (R95). -/
def byteSymbols (b : Byte) : List Symbol :=
  [.data (b.extractLsb' 4 4), .data (b.extractLsb' 0 4)]

/-- The byte of two nibbles, the high one first. -/
def byteOfNibbles (hi lo : Nibble) : Byte :=
  hi ++ lo

/-- The bytes of an even list of nibbles; an odd last nibble is dropped, and no caller gives one. -/
def bytesOfNibbles : List Nibble → List Byte
  | hi :: lo :: rest => byteOfNibbles hi lo :: bytesOfNibbles rest
  | _ => []

/-! ### Telegrams (11.2, R105) -/

/-- The kind nibble of a telegram the part sends: POLL 1, SERVICE 3. -/
def TelegramKind.nibble : TelegramKind → Nibble
  | .poll => 1
  | .service => 3

/-- The header byte: the kind in the high nibble, the sequence number in the low one. -/
def Telegram.header (t : Telegram) : Byte :=
  byteOfNibbles t.kind.nibble t.seq

/-- Header, body and check word (R105, R182). -/
def Telegram.bytes (t : Telegram) : List Byte :=
  t.header :: t.body ++ wordBytes (checkWord (t.header :: t.body))

/-- The symbols of the turn that sends a telegram (R105). -/
def Telegram.turn (t : Telegram) : List Symbol :=
  [.fill, .fill, .open] ++ t.bytes.flatMap byteSymbols ++ [.shut, .fill, .fill]

/-- What cuts a telegram short once its OPEN has gone out: ABORT and two FILL symbols of tail (R106). -/
def abortTurn : List Symbol := [.abort, .fill, .fill]

/-- The codes on the pair during the turn, under the line's detected polarity (R105). -/
def Telegram.pairCodes (t : Telegram) (polarity : Option Polarity) : List Code5 :=
  t.turn.map fun s => pairCode polarity (codeOf s)

/-- A code's five bits in the order of time, the most significant first (R95, R105). -/
def codeBits (c : Code5) : List Bool :=
  (List.range 5).map c.getMsbD

/-- The bits on the pair during the turn (R105). -/
def Telegram.pairBits (t : Telegram) (polarity : Option Polarity) : List Bool :=
  (t.pairCodes polarity).flatMap codeBits

/-! ### Code values (11.5) -/

/-- Station codes. -/
def Station.code : Station → Byte
  | .cab => 0
  | .sprA => 1
  | .sprB => 2
  | .trolley => 3

/-- The station of a code. -/
def stationOf? (b : Byte) : Option Station :=
  match b.toNat with
  | 0 => some .cab
  | 1 => some .sprA
  | 2 => some .sprB
  | 3 => some .trolley
  | _ => none

/-- Quality codes. -/
def Quality.code : Quality → Byte
  | .unseen => 0
  | .settling => 1
  | .good => 2
  | .bad => 3
  | .stale => 4
  | .held => 5
  | .lost => 6

/-- Range flag codes. -/
def RangeFlag.code : RangeFlag → Byte
  | .none => 0
  | .over => 1
  | .under => 2

/-- Point kind codes. -/
def PointBody.code : PointBody → Byte
  | .di _ => 0
  | .dout _ => 1
  | .ai _ => 2
  | .derived f => match f.kind with | .sum => 3 | .diff => 4

/-- Test codes. -/
def Test.code : Test → Byte
  | .isOn => 0
  | .isOff => 1
  | .above => 2
  | .below => 3

/-- The test of a code. -/
def testOf? (b : Byte) : Option Test :=
  match b.toNat with
  | 0 => some .isOn
  | 1 => some .isOff
  | 2 => some .above
  | 3 => some .below
  | _ => none

/-- Latch codes. -/
def Latch.code : Latch → Byte
  | .latchFalse => 0
  | .latchTrue => 1
  | .latchUnknown => 2

/-- Entry state codes. -/
def EntryState.code : EntryState → Byte
  | .blocked => 0
  | .releasing => 1
  | .permit => 2
  | .latched => 3

/-- A cause: its code, followed by its term byte, 0 for NONE (11.5, R184). -/
def Cause.bytes : Cause → List Byte
  | .none => [0, 0]
  | .failing t => [1, byteOf t]
  | .unusable t => [2, byteOf t]

/-- Line state codes. -/
def LineState.code : LineState → Byte
  | .off => 0
  | .acquire => 1
  | .awaitBeacon => 2
  | .operate => 3
  | .service => 4
  | .rejected => 5

/-- Lock state codes. -/
def LockState.code : LockState → Byte
  | .acquire => 0
  | .locked => 1

/-- Service state codes. -/
def ServiceState.code : ServiceState → Byte
  | .none => 0
  | .pending => 1
  | .granted => 2

/-- A rate setting or a locked rate: AUTO or NONE 0, 250k 1, 1M 2, 2M 3. -/
def rateCode : Option Rate → Byte
  | none => 0
  | some .r250k => 1
  | some .r1M => 2
  | some .r2M => 3

/-- The rate setting of a code. -/
def rateOf? (b : Byte) : Option (Option Rate) :=
  match b.toNat with
  | 0 => some none
  | 1 => some (some .r250k)
  | 2 => some (some .r1M)
  | 3 => some (some .r2M)
  | _ => none

/-- Polarity setting codes. -/
def PolaritySetting.code : PolaritySetting → Byte
  | .auto => 0
  | .normal => 1

/-- A detected polarity: NONE 0, NORMAL 1, REVERSED 2. -/
def polarityCode : Option Polarity → Byte
  | none => 0
  | some .normal => 1
  | some .reversed => 2

/-- Mode codes. -/
def Mode.code : Mode → Byte
  | .config => 0
  | .run => 1
  | .safe => 2

/-- Safe action codes. -/
def SafeAction.code : SafeAction → Byte
  | .drop => 0
  | .hold => 1

/-- SAFE cause codes. -/
def SafeCause.code : SafeCause → Byte
  | .none => 0
  | .silence => 1
  | .request => 2

/-- Status byte values (R164). -/
def Status.code : Status → Byte
  | .ok => 0
  | .pending => 1
  | .unknown => 2
  | .badLength => 3
  | .badValue => 4
  | .noSuch => 5
  | .mode => 6
  | .lineState => 7
  | .busy => 8
  | .noRoom => 9
  | .notClear => 10
  | .conflict => 11
  | .timeout => 12
  | .closed => 13

/-- The number of a line. -/
def lineCode : LineNo → Byte
  | .line0 => 0
  | .line1 => 1
  | .line2 => 2

/-- The line of a number. -/
def lineOf? (b : Byte) : Option LineNo :=
  match b.toNat with
  | 0 => some .line0
  | 1 => some .line1
  | 2 => some .line2
  | _ => none

/-- The point id of a byte: every byte names one. -/
def idOf (b : Byte) : PointId :=
  b.toFin

/-- The byte of a point id. -/
def idByte (p : PointId) : Byte :=
  byteOf p.val

/-- The entry index of a byte, absent outside 0 to 47. -/
def indexOf? (b : Byte) : Option EntryIx :=
  if h : b.toNat < 48 then some ⟨b.toNat, h⟩ else none

/-- The value of a 0 or 1 flag byte, absent for every other byte. -/
def flagOf? (b : Byte) : Option Bool :=
  match b.toNat with
  | 0 => some false
  | 1 => some true
  | _ => none

/-- An identity that may be absent: presence, type, serial (R183). -/
def identityBytes : Option Identity → List Byte
  | none => [0, 0, 0]
  | some i => [1, i.type, i.serial]

/-! ### Change records and frames (11.4, 11.6, R184) -/

/-- The entity kind and index bytes of a key. -/
def Key.bytes : Key → List Byte
  | .device => [0, 0]
  | .line l => [1, lineCode l]
  | .interlock i => [2, byteOf i.val]
  | .point p => [3, idByte p]

/-- The seven payload bytes of R184. -/
def Payload.bytes : Payload → List Byte
  | .point q forced r v => [q.code, flagByte forced, r.code] ++ intBytes v ++ [0, 0]
  | .line st rate pol ident n => [st.code, rateCode rate, polarityCode pol] ++ identityBytes ident ++ [byteOf n]
  | .interlock st cause => st.code :: cause.bytes ++ [0, 0, 0, 0]
  | .device m cause action => [m.code, cause.code, action.code, 0, 0, 0, 0]

/-- The fourteen bytes of a change record (R184). -/
def Record.bytes (r : Record) : List Byte :=
  r.key.bytes ++ byteOf r.fold :: tickBytes r.time ++ r.payload.bytes

/-- A count of records and the records, as READ CHANGES and REPORT carry them. -/
def recordsBytes (rs : List Record) : List Byte :=
  byteOf rs.length :: rs.flatMap Record.bytes

/-- A whole festoon frame (11.4, R182). -/
def frameBytes (code tag : Byte) (params : List Byte) : List Byte :=
  let covered := byteOf (params.length + 2) :: code :: tag :: params
  0xC5 :: covered ++ wordBytes (checkWord covered)

/-- A reply frame's bytes. -/
def Reply.bytes (r : Reply) : List Byte :=
  frameBytes r.code r.tag (r.status.code :: r.data)

/-- A REPORT frame's bytes: code 0x7F, tag 0 (11.4). -/
def reportBytes (rs : List Record) : List Byte :=
  frameBytes 0x7F 0 (recordsBytes rs)

/-- The bytes of the frame the transmitter is sending. -/
def Transmitter.bytes : Transmitter → List Byte
  | .idle => []
  | .reply r => r.bytes
  | .report rs => reportBytes rs

/-! ### Festoon characters (R160) -/

/-- The parity of a strap value. -/
inductive Parity where
  | none | even | odd
  deriving DecidableEq, Repr

/-- The parity strap (R160). -/
def parityOf (strap : Fin 4) : Parity :=
  match strap.val with
  | 1 => .even
  | 2 => .odd
  | _ => .none

/-- The divisor n of the rate strap (R160). -/
def rateDivisor (strap : Fin 8) : Nat :=
  match strap.val with
  | 0 => 31
  | 1 => 15
  | 2 => 7
  | 3 => 3
  | 4 => 1
  | _ => 15

/-- The festoon bit rate in bit/s (R160). -/
def bitRate (strap : Fin 8) : Nat :=
  29491200 / (16 * (rateDivisor strap + 1))

/-- The bit times of one character (R160). -/
def characterBits (p : Parity) : Nat :=
  if p = .none then 10 else 11

/-- The count of ones among the data bits is odd. -/
def oddOnes (b : Byte) : Bool :=
  (List.range 8).foldl (fun acc k => acc ^^ b.getLsbD k) false

/-- The parity bit a character of this value carries under EVEN and ODD (R160). -/
def parityBitOf (p : Parity) (b : Byte) : Bool :=
  match p with
  | .even => oddOnes b
  | .odd => !oddOnes b
  | .none => false

/-- A byte as its character on the festoon, in the order of its bits in time: the start bit, the data bits with the least
significant first, the parity bit under EVEN and ODD, the stop bit (R160). A start bit of 0 is DEDUCED from the stop bit of 1
(log entry 40). -/
def characterLayout (p : Parity) (b : Byte) : List Bool :=
  false :: ((List.range 8).map b.getLsbD ++ (if p = .none then [] else [parityBitOf p b]) ++ [true])

/-- The bits of the frame the transmitter is sending: its characters back to back, with no idle time between them (R160). -/
def Transmitter.lineBits (p : Parity) (t : Transmitter) : List Bool :=
  t.bytes.flatMap (characterLayout p)

/-- A received character has a framing error or a parity error (R160). -/
def characterBad (p : Parity) (value : Byte) (parityBit stopBit : Bool) : Bool :=
  !stopBit || (p ≠ .none && parityBit ≠ parityBitOf p value)

end Sys2Proof.Machine
end

