-- ==== Sys2Proof/Machine/Table.lean ====
section
/-! DEFINITION. Tables of defined records: lists of (key, record) in strictly ascending key, with lookup, store and removal. -/

namespace Sys2Proof.Machine

/-- The record stored under a key. -/
def tableGet {n : Nat} {α : Type} (k : Fin n) : List (Fin n × α) → Option α
  | [] => none
  | (j, v) :: rest => if k = j then some v else tableGet k rest

/-- Stores a record under a key, in place or at its ascending place. -/
def tableSet {n : Nat} {α : Type} (k : Fin n) (v : α) : List (Fin n × α) → List (Fin n × α)
  | [] => [(k, v)]
  | (j, w) :: rest =>
    if k = j then (k, v) :: rest
    else if k < j then (k, v) :: (j, w) :: rest
    else (j, w) :: tableSet k v rest

/-- Removes the record under a key. -/
def tableErase {n : Nat} {α : Type} (k : Fin n) (t : List (Fin n × α)) : List (Fin n × α) :=
  t.filter fun e => e.1 ≠ k

/-- The keys of a table stand in strictly ascending order, so no key stands twice. -/
def tableSorted {n : Nat} {α : Type} (t : List (Fin n × α)) : Bool :=
  decide ((t.map Prod.fst).Pairwise (· < ·))

end Sys2Proof.Machine
end

