-- ==== Sys2Proof/Machine/Ops.lean ====
section
/-! DEFINITION. The named operations that every meaning is built from: reading and storing points, entries and lines, what a
point presents, the reply queue, the transmitter's choice, and the Change Queue's notices, admissions and departures. -/

namespace Sys2Proof.Machine

/-! ### Reading and storing records -/

/-- The record of a point id, absent while the id is undefined. -/
def State.point? (s : State) (p : PointId) : Option Point :=
  tableGet p s.points

/-- The interlock entry of an index, absent while it is undefined. -/
def State.entry? (s : State) (i : EntryIx) : Option Entry :=
  tableGet i s.entries

/-- Stores a point's record. -/
def State.setPoint (s : State) (p : PointId) (r : Point) : State :=
  { s with points := tableSet p r s.points }

/-- Stores an entry. -/
def State.setEntry (s : State) (i : EntryIx) (e : Entry) : State :=
  { s with entries := tableSet i e s.entries }

/-- Applies a change to a defined point's record. -/
def State.modifyPoint (s : State) (p : PointId) (f : Point → Point) : State :=
  match s.point? p with
  | some r => s.setPoint p (f r)
  | none => s

/-- Applies a change to a defined entry. -/
def State.modifyEntry (s : State) (i : EntryIx) (f : Entry → Entry) : State :=
  match s.entry? i with
  | some e => s.setEntry i (f e)
  | none => s

/-- A line of the three. -/
def Lines.get (ls : Lines) : LineNo → Line
  | .line0 => ls.line0
  | .line1 => ls.line1
  | .line2 => ls.line2

/-- Replaces a line of the three. -/
def Lines.set (ls : Lines) (l : LineNo) (L : Line) : Lines :=
  match l with
  | .line0 => { ls with line0 := L }
  | .line1 => { ls with line1 := L }
  | .line2 => { ls with line2 := L }

/-- The record of a drop line. -/
def State.line (s : State) (l : LineNo) : Line :=
  s.lines.get l

/-- Stores the record of a drop line. -/
def State.setLine (s : State) (l : LineNo) (L : Line) : State :=
  { s with lines := s.lines.set l L }

/-- The three lines in order. -/
def allLines : List LineNo := [.line0, .line1, .line2]

/-- Stores the Mode Controller's record. -/
def State.setDev (s : State) (d : Device) : State := { s with dev := d }

/-- Stores the pin block. -/
def State.setPins (s : State) (p : Pins) : State := { s with pins := p }

/-- Stores the Force List. -/
def State.setForces (s : State) (f : List ForceEntry) : State := { s with forces := f }

/-- Stores the port. -/
def State.setPort (s : State) (p : Port) : State := { s with port := p }

/-- Stores the records of the Change Queue. -/
def State.setQueue (s : State) (q : List Record) : State := { s with queue := q }

/-- The station a line serves. -/
def stationOfLine : LineNo → Station
  | .line0 => .cab
  | .line1 => .sprA
  | .line2 => .sprB

/-- The line that serves a station; TROLLEY has none. -/
def lineOfStation : Station → Option LineNo
  | .cab => some .line0
  | .sprA => some .line1
  | .sprB => some .line2
  | .trolley => none

/-- The point lies on the station. -/
def Point.onStation (p : Point) (st : Station) : Bool :=
  match p.place with
  | some pl => pl.station = st
  | none => false

/-- The point's channel; 0 for a point without a place, which takes no samples. -/
def Point.channel (p : Point) : Nat :=
  match p.place with
  | some pl => pl.channel
  | none => 0

/-- The ids of a station's defined points, ascending. -/
def State.stationIds (s : State) (st : Station) : List PointId :=
  (s.points.filter fun e => e.2.onStation st).map Prod.fst

/-- The ids of the defined points, ascending. -/
def State.pointIds (s : State) : List PointId :=
  s.points.map Prod.fst

/-- The indexes of the defined entries, ascending. -/
def State.entryIds (s : State) : List EntryIx :=
  s.entries.map Prod.fst

/-! ### What a point presents (R3, R72) -/

/-- The Force List's entry for a point. -/
def State.forceOf (s : State) (p : PointId) : Option ForceEntry :=
  s.forces.find? fun f => f.point = p

/-- The value a point presents: its force value while it is forced, else its own (R3). -/
def State.presented (s : State) (p : PointId) (r : Point) : Int :=
  match r.forced, s.forceOf p with
  | true, some f => f.value
  | _, _ => r.ownValue

/-- The range flag a point presents: its force range flag while it is forced, else its own (R72). -/
def State.presentedRange (s : State) (p : PointId) (r : Point) : RangeFlag :=
  match r.forced, s.forceOf p with
  | true, some f => f.range
  | _, _ => r.ownRange

/-! ### Local pins (R21) -/

/-- The lowest-numbered DO point on a trolley channel, as the effective value its pin drives. -/
def State.pinSource (s : State) (k : Nat) : Option Bool :=
  s.points.findSome? fun e =>
    match e.2.body with
    | .dout f => if e.2.place = some ⟨.trolley, k⟩ then some f.effective else none
    | _ => none

/-- The level pin Pk drives: absent for an IN pin; for an OUT pin the effective value of its DO point, else its reset level
(R21). The drive is a function of the state, so it follows its source at once. -/
def State.pinDrive (s : State) (k : Nat) : Option Bool :=
  if s.pins.direction.getLsbD k then some ((s.pinSource k).getD (s.pins.resetLevel.getLsbD k)) else none

/-! ### The reply queue (R163 to R165) -/

/-- The port takes an intact frame: the reply queue holds fewer than 4 frames and no RESET has been taken (R163). -/
def Port.accepts (p : Port) : Bool :=
  decide (p.replies.length < 4) && !p.closed

/-- A request's own reply is queued at the tail, or held with the waiting lines when the queue has no room (R165). -/
def Port.queueReply (p : Port) (r : Reply) : Port :=
  if p.replies.length < 4 then { p with replies := p.replies ++ [r] }
  else { p with waiting := p.waiting ++ [.request r] }

/-- The reply in a line's slot is finished and waits. -/
def Line.finishedReply (L : Line) : Option Reply :=
  match L.transfer with
  | some t => match t.progress with
    | .finished r => some r
    | _ => none
  | none => none

/-- The first waiting reply is queued at the tail, where the queue has room (R165); with no reply waiting, the held RESET
reply is queued (R170). -/
def State.serveWaiting (s : State) : State :=
  if s.port.replies.length < 4 then
    match s.port.waiting with
    | .request r :: rest => s.setPort { s.port with waiting := rest, replies := s.port.replies ++ [r] }
    | .line l :: rest =>
      let L := s.line l
      (s.setLine l { L with transfer := none }).setPort
        { s.port with waiting := rest, replies := s.port.replies ++ L.finishedReply.toList }
    | [] =>
      match s.port.heldReset with
      | some r => s.setPort { s.port with heldReset := none, replies := s.port.replies ++ [r] }
      | none => s
  else s

/-- An ended transfer's reply is handed to the port: queued where there is room and no reply waits, and the slot becomes
empty; else it waits in the slot, finished (R86, R165). -/
def State.handReply (s : State) (l : LineNo) (t : Transfer) (status : Status) (data : List Byte) : State :=
  let r : Reply := ⟨0xB4, t.tag, status, data⟩
  let L := s.line l
  if s.port.replies.length < 4 && s.port.waiting.isEmpty then
    (s.setLine l { L with transfer := none }).setPort { s.port with replies := s.port.replies ++ [r] }
  else
    (s.setLine l { L with transfer := some { t with progress := .finished r } }).setPort
      { s.port with waiting := s.port.waiting ++ [.line l] }

/-! ### The Change Queue (chapter 8) -/

/-- The capacity of the Change Queue. -/
def queueCapacity : Nat := 64

/-- An entity may report: a point by its report flag, the others by their class enable (R149). -/
def State.mayReport (s : State) : Key → Bool
  | .device => s.classes.device
  | .line _ => s.classes.line
  | .interlock _ => s.classes.interlock
  | .point p => match s.point? p with
    | some r => r.report
    | none => false

/-- An entity's reported state as it stands (R148); absent for an undefined point or entry. -/
def State.payload (s : State) : Key → Option Payload
  | .device => some (.device s.dev.mode s.dev.lastCause s.dev.safeAction)
  | .line l =>
    let L := s.line l
    some (.line L.state L.lockedRate L.polarity L.lastAttached L.restartCount)
  | .interlock i => (s.entry? i).map fun e => .interlock e.state e.cause
  | .point p => (s.point? p).map fun r => .point r.quality r.forced (s.presentedRange p r) (s.presented p r)

/-- The analog fields take a last recorded value. -/
def Point.setRecorded (r : Point) (v : Int) : Point :=
  match r.body with
  | .ai f => { r with body := .ai { f with analog := { f.analog with lastRecorded := v } } }
  | .derived f => { r with body := .derived { f with analog := { f.analog with lastRecorded := v } } }
  | .di _ => r
  | .dout _ => r

/-- After a record of a point is written, its last recorded value is the value the record carries (R35). -/
def State.noteRecorded (s : State) : Key → State
  | .point p => s.modifyPoint p fun r => r.setRecorded (s.presented p r)
  | _ => s

/-- An entity's pending mark and count. -/
def State.pendingOf (s : State) : Key → Pending
  | .device => s.dev.pending
  | .line l => (s.line l).pending
  | .interlock i => match s.entry? i with
    | some e => e.pending
    | none => Pending.clear
  | .point p => match s.point? p with
    | some r => r.pending
    | none => Pending.clear

/-- Stores an entity's pending mark and count. -/
def State.setPending (s : State) (k : Key) (m : Pending) : State :=
  match k with
  | .device => s.setDev { s.dev with pending := m }
  | .line l => s.setLine l { s.line l with pending := m }
  | .interlock i => s.modifyEntry i fun e => { e with pending := m }
  | .point p => s.modifyPoint p fun r => { r with pending := m }

/-- The queue holds a record with the key. -/
def State.hasRecord (s : State) (k : Key) : Bool :=
  s.queue.any fun r => r.key = k

/-- A record folds a notice: current state, fold count up by one to at most 255, the event's tick (R150). -/
def Record.folded (r : Record) (payload : Payload) (time : Tick) : Record :=
  { r with payload := payload, fold := saturate 255 r.fold, time := time }

/-- The pending mark after a notice that found the queue full (R151). -/
def Pending.noted (m : Pending) : Pending :=
  if m.marked then { m with count := saturate 255 m.count } else ⟨true, 1⟩

/-- A notice as the Change Queue takes it: not at all, by a fold, by a new record, or by a pending mark (R149 to R151). -/
def State.takeNotice (s : State) (k : Key) : State :=
  match s.mayReport k, s.payload k with
  | true, some pl =>
    if s.hasRecord k then
      (s.setQueue (s.queue.map fun r => if r.key = k then r.folded pl s.dev.tick else r)).noteRecorded k
    else if s.queue.length < queueCapacity then
      (s.setQueue (s.queue ++ [⟨k, pl, 1, s.dev.tick⟩])).noteRecorded k
    else s.setPending k (s.pendingOf k).noted
  | _, _ => s

/-- A record follows its entity to its final state within the event, with no further fold (R148). -/
def State.refresh (s : State) (k : Key) : State :=
  match s.payload k with
  | some pl =>
    if s.hasRecord k then
      (s.setQueue (s.queue.map fun r => if r.key = k then { r with payload := pl } else r)).noteRecorded k
    else s
  | none => s

/-- The marked entities in the order of admission: DEVICE, LINE, INTERLOCK, POINT, each by ascending index (R152). -/
def State.markedKeys (s : State) : List Key :=
  (if s.dev.pending.marked then [.device] else [])
    ++ (allLines.filter fun l => (s.line l).pending.marked).map .line
    ++ (s.entries.filter fun e => e.2.pending.marked).map (fun e => .interlock e.1)
    ++ (s.points.filter fun e => e.2.pending.marked).map (fun e => .point e.1)

/-- One departure admits one pending entity, if any is marked (R152). -/
def State.admitOne (s : State) : State :=
  match s.markedKeys with
  | [] => s
  | k :: _ =>
    match s.payload k with
    | some pl =>
      ((s.setQueue (s.queue ++ [⟨k, pl, (s.pendingOf k).count, s.dev.tick⟩])).noteRecorded k).setPending k Pending.clear
    | none => s

/-- The first `k` records leave from the head one at a time, each followed by its admission (R152, R156, R157). -/
def State.drain : Nat → State → State
  | 0, s => s
  | k + 1, s => State.drain k (s.setQueue s.queue.tail).admitOne

/-- The records at positions 1 to k, where k is the lesser of 8 and the number queued (R156, R157). -/
def State.headRecords (s : State) : List Record :=
  s.queue.take 8

/-- The head records leave the queue. -/
def State.drainHead (s : State) : State :=
  s.drain s.headRecords.length

/-- The record of a key leaves the queue, followed by its admission; with no record, nothing leaves (R153). -/
def State.departKey (s : State) (k : Key) : State :=
  if s.hasRecord k then (s.setQueue (s.queue.filter fun r => r.key ≠ k)).admitOne else s

/-- An entity is redefined or cleared: its mark is cleared first, then its record leaves, then the admission (R153). -/
def State.forgetKey (s : State) (k : Key) : State :=
  (s.setPending k Pending.clear).departKey k

/-- Every pending mark and count is cleared. -/
def State.clearMarks (s : State) : State :=
  { s with
    dev := { s.dev with pending := Pending.clear }
    lines := ⟨{ s.lines.line0 with pending := Pending.clear }, { s.lines.line1 with pending := Pending.clear },
      { s.lines.line2 with pending := Pending.clear }⟩
    entries := s.entries.map fun e => (e.1, { e.2 with pending := Pending.clear })
    points := s.points.map fun e => (e.1, { e.2 with pending := Pending.clear }) }

/-- The queue is emptied without admission, and every mark and count cleared (R159). -/
def State.emptyQueue (s : State) : State :=
  (s.setQueue []).clearMarks

/-! ### Events and their notices -/

/-- The work of one event: the state so far, and the entities that have raised their notice in it, in order. -/
structure Work where
  st : State
  raised : List Key
  deriving DecidableEq, Repr

/-- The work with a new state. -/
def Work.put (w : Work) (s : State) : Work := { w with st := s }

/-- A raised notice stamps a point's last change timestamp with the tick count (R23). -/
def State.stamp (s : State) : Key → State
  | .point p => s.modifyPoint p fun r => { r with lastChange := s.dev.tick }
  | _ => s

/-- An entity raises its change notice; an event raises at most one per entity (R23, R56, R146, R147). -/
def Work.notice (w : Work) (k : Key) : Work :=
  if w.raised.contains k then w else ⟨(w.st.stamp k).takeNotice k, w.raised ++ [k]⟩

/-- The end of an event: each record whose entity raised a notice follows that entity to its final state (R148). -/
def Work.finish (w : Work) : State :=
  w.raised.foldl State.refresh w.st

/-- One event's work on a state. -/
def State.event (s : State) (f : Work → Work) : State :=
  (f ⟨s, []⟩).finish

/-! ### The transmitter (R166) -/

/-- The IDLE transmitter starts sending the reply at the head of the queue, which leaves it; a waiting reply takes the freed
place (R165, R166 case 1). -/
def State.startReply (s : State) : State :=
  match s.port.transmitter, s.port.replies with
  | .idle, r :: rest => (s.setPort { s.port with transmitter := .reply r, replies := rest }).serveWaiting
  | _, _ => s

/-- REPORT frames may start: reports enabled, no hold, a record queued (R156, R166). -/
def State.reportClaim (s : State) : Bool :=
  s.port.reportEnable && s.port.reportHold.isNone && !s.queue.isEmpty

/-- The IDLE transmitter with no reply queued starts a REPORT frame, which takes the head records (R156, R166 case 2). -/
def State.startReport (s : State) : State :=
  match s.port.transmitter, s.port.replies with
  | .idle, [] =>
    if s.reportClaim then (s.setPort { s.port with transmitter := .report s.headRecords }).drainHead else s
  | _, _ => s

/-- The transmitter's choice at the end of an event: a reply first, then a REPORT frame, else it stays as it is (R166). -/
def State.choose (s : State) : State :=
  s.startReply.startReport

/-- The reply frame of a RESET that was taken (R170): code 0x83 with status OK, which no other request's reply carries. -/
def Reply.isReset (r : Reply) : Bool :=
  r.code == 0x83 && r.status == .ok

/-- The silence monitor is loaded afresh in RUN while the silence limit is not 0 (R179). -/
def State.restartSilence (s : State) : State :=
  if s.dev.mode = .run ∧ s.dev.silenceLimit ≠ 0 then
    s.setDev { s.dev with silenceTimer := some (ticksOfMs s.dev.silenceLimit) }
  else s

/-! ### Running a command -/

/-- An outcome of this block: it neither faults nor refuses. -/
abbrev Result := Host.Outcome State Fault Refusal

/-- A command of the block: nothing happens while the reset input is held low (R181); otherwise the command's effect, then
the transmitter's choice at the end of the event (R166). -/
def runCommand (f : State → State) (s : State) : Result :=
  if s.dev.inReset then .next s else .next (f s).choose

/-- What a request's owner decides: a reply with what follows its status, or a reply deferred or held elsewhere. -/
inductive Answer where
  | reply (status : Status) (data : List Byte)
  | later
  deriving DecidableEq, Repr

/-- A refusal: the status alone (R164). -/
def refuse (s : State) (status : Status) : State × Answer :=
  (s, .reply status [])

/-- The code of a reply: the request's code plus 0x80, or a code of 0x80 or more as it stands (R164). -/
def replyCode (code : Byte) : Byte :=
  if code < 0x80 then code + 0x80 else code

/-- The reply of a request is queued or held (R163 step 3). -/
def State.answer (s : State) (code tag : Byte) : Answer → State
  | .reply status data => s.setPort (s.port.queueReply ⟨replyCode code, tag, status, data⟩)
  | .later => s

/-- The framer returns to HUNT. -/
def State.toHunt (s : State) : State :=
  s.setPort { s.port with framer := .hunt }

/-- An intact frame that acceptance turns away is counted NO_ROOM_DISCARD (R162, R163). -/
def State.turnAway (s : State) : State :=
  s.setPort { s.port with discards := { s.port.discards with noRoom := saturate 65535 s.port.discards.noRoom } }

/-- An intact frame of this code is offered: turned away, or taken with its three steps (R163). -/
def requestWork (code tag : Byte) (owner : State → State × Answer) (s : State) : State :=
  let s := s.toHunt
  if s.port.accepts then
    let r := owner s.restartSilence
    r.1.answer code tag r.2
  else s.turnAway

/-- The meaning of a request row. -/
def runRequest (code tag : Byte) (owner : State → State × Answer) (s : State) : Result :=
  runCommand (requestWork code tag owner) s

end Sys2Proof.Machine
end

