-- ==== Sys2Proof/Machine/Operands.lean ====
section
/-! DEFINITION. The operands of the requests: how parameter bytes are read into records and settings, with every check and
clamp of the requests' own rules, and how records are written back into a reply (R24, R65, R112, R113, R183). -/

namespace Sys2Proof.Machine

/-! ### DEFINE POINT (R24) -/

/-- The five point kinds as a request names them. -/
inductive KindCode where
  | di | dout | ai | sum | diff
  deriving DecidableEq, Repr

/-- The kind of a code (11.5). -/
def kindOf? (b : Byte) : Option KindCode :=
  match b.toNat with
  | 0 => some .di
  | 1 => some .dout
  | 2 => some .ai
  | 3 => some .sum
  | 4 => some .diff
  | _ => none

/-- The parameter length of DEFINE POINT for a kind (11.5). -/
def KindCode.paramLength : KindCode → Nat
  | .di => 6
  | .dout => 6
  | .ai => 18
  | .sum => 13
  | .diff => 13

/-- The channel lies in its range for the kind and the station, and the pair is one a point may have (section 1.1, R24). -/
def KindCode.placeFits (k : KindCode) (st : Station) (channel : Nat) : Bool :=
  match k, st with
  | .ai, .trolley => false
  | .ai, _ => decide (channel ≤ 7)
  | _, .trolley => decide (channel ≤ 15)
  | _, _ => decide (channel ≤ 63)

/-- The station and channel of a DEFINE POINT: absent for SUM and DIFF, which carry them unread; refused where either does
not fit (R24 check 5). -/
def readPlace (k : KindCode) (ps : List Byte) : Option (Option Place) :=
  match k with
  | .sum => some none
  | .diff => some none
  | _ =>
    match stationOf? (byteAt ps 2) with
    | some st =>
      if k.placeFits st (byteAt ps 3).toNat then some (some ⟨st, (byteAt ps 3).toNat⟩) else none
    | none => none

/-- The deadband as taken: 0 to 1000. -/
def takenDeadband (ps : List Byte) (i : Nat) : Nat :=
  clampNat 0 1000 (natAt ps i)

/-- The fields of a kind as DEFINE POINT takes them, with the initial values of R2; refused on a bad fail value or lo ≥ hi. -/
def readBody (k : KindCode) (ps : List Byte) : Option PointBody :=
  match k with
  | .di => some (.di ⟨clampNat 1 15 (byteAt ps 5).toNat, none, 0, false⟩)
  | .dout => (flagOf? (byteAt ps 5)).map fun f => .dout ⟨f, f, f, f, 0, none⟩
  | .ai =>
    if intAt ps 11 < intAt ps 13 then
      some (.ai {
        zero := clampNat 0 4095 (natAt ps 5)
        gain := intAt ps 7
        offset := intAt ps 9
        settle := clampNat 1 15 (byteAt ps 17).toNat
        validRun := 0
        analog := Analog.initial (intAt ps 11) (intAt ps 13) (takenDeadband ps 15) })
    else none
  | .sum | .diff =>
    if intAt ps 7 < intAt ps 9 then
      some (.derived {
        kind := if k = .sum then .sum else .diff
        sourceA := idOf (byteAt ps 5)
        sourceB := idOf (byteAt ps 6)
        analog := Analog.initial (intAt ps 7) (intAt ps 9) (takenDeadband ps 11) })
    else none

/-- The record DEFINE POINT creates (R2, R24), absent where a value is refused. -/
def readPoint (k : KindCode) (tick : Tick) (ps : List Byte) : Option Point :=
  match readPlace k ps, flagOf? (byteAt ps 4), readBody k ps with
  | some place, some report, some body =>
    some {
      place := place
      report := report
      quality := .unseen
      confirmed := false
      forced := false
      pending := Pending.clear
      lastChange := tick
      body := body }
  | _, _, _ => none

/-- A kind's definition fields in the layout of the request (R24, 11.5). -/
def PointBody.definitionBytes : PointBody → List Byte
  | .di f => [byteOf f.depth]
  | .dout f => [flagByte f.fail]
  | .ai f =>
    natBytes f.zero ++ intBytes f.gain ++ intBytes f.offset ++ intBytes f.analog.lo ++ intBytes f.analog.hi
      ++ natBytes f.analog.deadband ++ [byteOf f.settle]
  | .derived f =>
    [idByte f.sourceA, idByte f.sourceB] ++ intBytes f.analog.lo ++ intBytes f.analog.hi ++ natBytes f.analog.deadband

/-- The definition fields as taken. For SUM and DIFF the station and channel bytes are returned as carried (DEDUCED,
log entry 13). -/
def definitionBytes (ps : List Byte) (r : Point) : List Byte :=
  [byteAt ps 0, byteAt ps 1, byteAt ps 2, byteAt ps 3, flagByte r.report] ++ r.body.definitionBytes

/-! ### READ POINTS, SET OUTPUTS, FORCE (R26, R27, R73, R74) -/

/-- One READ POINTS entry, 11 bytes (R26, R184). -/
def State.pointEntry (s : State) (p : PointId) : List Byte :=
  match s.point? p with
  | none => [idByte p, 0xFF, 0, 0, 0, 0, 0, 0, 0, 0, 0]
  | some r =>
    [idByte p, r.body.code, r.quality.code, flagByte r.forced] ++ intBytes (s.presented p r)
      ++ [(s.presentedRange p r).code] ++ tickBytes r.lastChange

/-- The ids from a first id upward. -/
def idsFrom (first count : Nat) : List PointId :=
  (List.range count).filterMap fun i => if h : first + i < 256 then some ⟨first + i, h⟩ else none

/-- The (point id, value) pairs of SET OUTPUTS, in the order carried. -/
def readPairs : List Byte → List (PointId × Byte)
  | p :: v :: rest => (idOf p, v) :: readPairs rest
  | _ => []

/-- The status one pair of SET OUTPUTS is refused with, if any (R27). -/
def State.pairFault (s : State) (pair : PointId × Byte) : Option Status :=
  match s.point? pair.1 with
  | some r =>
    match r.body with
    | .dout _ => if (flagOf? pair.2).isSome then none else some .badValue
    | _ => some .noSuch
  | none => some .noSuch

/-- The force value and range flag a FORCE takes for a point; absent where a DI or DO is given neither 0 nor 1 (R73, R74). -/
def takenForce (r : Point) (v : Int) : Option (Int × RangeFlag) :=
  match r.analog? with
  | some a => some (clampRange a.lo a.hi v)
  | none => if v = 0 ∨ v = 1 then some (v, .none) else none

/-- The place of a point in the Force List, counted from 1 at the oldest; one beyond the last where it is not on it (R71). -/
def forcePosition (p : PointId) (fs : List ForceEntry) : Nat :=
  fs.findIdx (fun f => f.point = p) + 1

/-! ### DEFINE INTERLOCK (R65) and READ INTERLOCK (R67) -/

/-- One term group of six bytes at a place, with its latch UNKNOWN; absent where its test is none of the four. -/
def readTerm (ps : List Byte) (i : Nat) : Option Term :=
  (testOf? (byteAt ps (i + 1))).map fun t =>
    ⟨idOf (byteAt ps i), t, intAt ps (i + 2), clampNat 0 10000 (natAt ps (i + 4)), .latchUnknown⟩

/-- So many term groups from the first place of the terms; absent where any test is refused. -/
def readTerms (ps : List Byte) (n : Nat) : Option (List Term) :=
  (List.range n).mapM fun i => readTerm ps (6 + 6 * i)

/-- The entry DEFINE INTERLOCK creates (R43, R65), absent where the latching flag or a test is refused. -/
def readEntry (ps : List Byte) : Option Entry :=
  match flagOf? (byteAt ps 2), readTerms ps (byteAt ps 5).toNat with
  | some latching, some terms =>
    some {
      target := idOf (byteAt ps 1)
      latching := latching
      delay := clampNat 0 2000 (natAt ps 3)
      terms := terms
      state := .blocked
      cause := causeOf terms
      timer := none
      pending := Pending.clear }
  | _, _ => none

/-- A term as DEFINE INTERLOCK carries it. -/
def Term.definitionBytes (t : Term) : List Byte :=
  [idByte t.point, t.test.code] ++ intBytes t.threshold ++ natBytes t.hysteresis

/-- An entry's definition as taken (R65). -/
def Entry.definitionBytes (i : EntryIx) (e : Entry) : List Byte :=
  [byteOf i.val, idByte e.target, flagByte e.latching] ++ natBytes e.delay ++ [byteOf e.terms.length]
    ++ e.terms.flatMap Term.definitionBytes

/-- The remaining release time in ms: at least 1 in RELEASING, never above the delay, and 0 elsewhere (R67). -/
def Entry.remaining (e : Entry) : Nat :=
  match e.state with
  | .releasing => max 1 (min e.delay (msOfTicks (e.timer.getD 0)))
  | _ => 0

/-- A READ INTERLOCK reply's fields: the index, a defined byte, and the entry where that byte is 1 (R67, R184). -/
def State.entryBytes (s : State) (i : EntryIx) : List Byte :=
  match s.entry? i with
  | none => [byteOf i.val, 0]
  | some e =>
    [byteOf i.val, 1, idByte e.target, flagByte e.latching, e.state.code] ++ e.cause.bytes ++ natBytes e.remaining
      ++ [byteOf e.terms.length] ++ e.terms.flatMap fun t => t.definitionBytes ++ [t.latch.code]

/-! ### SET LINE and READ LINE (R111 to R113, R130) -/

/-- The polarity setting of a code. -/
def polaritySettingOf? (b : Byte) : Option PolaritySetting :=
  match b.toNat with
  | 0 => some .auto
  | 1 => some .normal
  | _ => none

/-- The image sizes of SET LINE are each at most 8. -/
def sizesFit (ps : List Byte) : Bool :=
  decide ((byteAt ps 11).toNat ≤ 8) && decide ((byteAt ps 12).toNat ≤ 8) && decide ((byteAt ps 13).toNat ≤ 8)

/-- The settings SET LINE takes, with the clamping of R113; absent where a value is refused (R112). -/
def readSettings (ps : List Byte) : Option LineSettings :=
  match flagOf? (byteAt ps 1), rateOf? (byteAt ps 2), polaritySettingOf? (byteAt ps 3), flagOf? (byteAt ps 15) with
  | some enable, some rate, some polarity, some exact =>
    if sizesFit ps then
      let stale := clampNat 1 15 (byteAt ps 9).toNat
      some {
        enable := enable
        rate := rate
        polarity := polarity
        pollPeriod := clampNat 500 20000 (natAt ps 4)
        replyTimeout := clampNat 100 5000 (natAt ps 6)
        retryLimit := clampNat 0 3 (byteAt ps 8).toNat
        staleLimit := stale
        lossLimit := clampNat stale 31 (byteAt ps 10).toNat
        diBytes := (byteAt ps 11).toNat
        doBytes := (byteAt ps 12).toNat
        aiChannels := (byteAt ps 13).toNat
        expectedType := byteAt ps 14
        exact := exact
        serial := byteAt ps 16
        holdLimit := clampNat 500 30000 (natAt ps 17) }
    else none
  | _, _, _, _ => none

/-- A line's settings in the layout of SET LINE. -/
def LineSettings.bytes (c : LineSettings) : List Byte :=
  [flagByte c.enable, rateCode c.rate, c.polarity.code] ++ natBytes c.pollPeriod ++ natBytes c.replyTimeout
    ++ [byteOf c.retryLimit, byteOf c.staleLimit, byteOf c.lossLimit, byteOf c.diBytes, byteOf c.doBytes,
      byteOf c.aiChannels, c.expectedType, flagByte c.exact, c.serial] ++ natBytes c.holdLimit

/-- A READ LINE reply's fields (R130). -/
def Line.bytes (l : LineNo) (L : Line) : List Byte :=
  [lineCode l, L.state.code, L.lock.code] ++ L.settings.bytes ++ [rateCode L.lockedRate, polarityCode L.polarity]
    ++ identityBytes L.lastAttached ++ [byteOf L.restartCount] ++ identityBytes L.lastBeacon ++ natBytes L.beaconDiscards
    ++ [byteOf L.failures] ++ natBytes L.badTelegrams ++ natBytes L.timeouts ++ natBytes L.slips ++ [L.service.code]

/-! ### SET MONITOR and READ DEVICE (R169, R178) -/

/-- The safe action of a code. -/
def safeActionOf? (b : Byte) : Option SafeAction :=
  match b.toNat with
  | 0 => some .drop
  | 1 => some .hold
  | _ => none

/-- The silence limit as taken: 0, or 50 to 5000 (R178). -/
def takenLimit (n : Nat) : Nat :=
  if n = 0 then 0 else clampNat 50 5000 n

/-- The remaining report hold in ms, rounded up, or 0 with the timer stopped (R169). A remainder of 65536 ms does not fit the
field, and its 16 bits are the free value of log entry 6. -/
def holdBytes : Option Nat → List Byte
  | none => natBytes 0
  | some ticks => if msOfTicks ticks ≤ 65535 then natBytes (msOfTicks ticks) else wordBytes (Config.holdBeyondField ticks)

/-- The five discard counts in the order of R162. -/
def Discards.bytes (d : Discards) : List Byte :=
  natBytes d.framing ++ natBytes d.gap ++ natBytes d.length ++ natBytes d.check ++ natBytes d.noRoom

/-- A READ DEVICE reply's fields (R169). -/
def State.deviceBytes (s : State) : List Byte :=
  [0x54, 0x03, 0x40, Config.revision, s.dev.mode.code, s.dev.safeAction.code, s.dev.lastCause.code] ++ tickBytes s.dev.tick
    ++ s.port.discards.bytes ++ [byteOf s.dev.rateStrap.val, byteOf s.dev.parityStrap.val, flagByte s.port.reportEnable]
    ++ holdBytes s.port.reportHold

end Sys2Proof.Machine
end

