-- ==== Sys2Proof/Machine/Interlocks.lean ====
section
/-! DEFINITION. Storing a changed point with its notice, term evaluation, the entry states and the effective value of every
output (R23, R34 to R36, R44 to R64). -/

namespace Sys2Proof.Machine

/-! ### What a change reports and hands on -/

/-- The change raises the point's notice (R23, R33, R34, R36, R72). -/
def reportable (old new : Point) : Bool :=
  decide (old.quality ≠ new.quality) || decide (old.forced ≠ new.forced) ||
    match old.body, new.body with
    | .di f, .di g => !new.forced && decide (f.qualified ≠ g.qualified)
    | .dout f, .dout g => decide (f.effective ≠ g.effective)
    | .ai f, .ai g => !new.forced && f.analog.reportable g.analog
    | .derived f, .derived g => !new.forced && f.analog.reportable g.analog
    | _, _ => false

/-- The change reaches derived points and terms: the presented value, the quality or the forced flag changed (R40, R50). -/
def handsOn (old new : Point) : Bool :=
  decide (old.quality ≠ new.quality) || decide (old.forced ≠ new.forced) ||
    (!new.forced && decide (old.ownValue ≠ new.ownValue))

/-- With its report flag off, a point's last recorded value takes each new value that passes the deadband test (R35). -/
def trackRecorded (old new : Point) : Point :=
  match old.analog?, new.analog? with
  | some a, some b =>
    if !new.report && !new.forced && decide (a.value ≠ b.value) && a.passes b.value then new.setRecorded b.value else new
  | _, _ => new

/-- Stores a point's new record and raises its notice where the change reports. -/
def Work.storePoint (w : Work) (p : PointId) (old new : Point) : Work :=
  let w1 := w.put (w.st.setPoint p (trackRecorded old new))
  if reportable old new then w1.notice (.point p) else w1

/-! ### Terms (R46) -/

/-- The latch an evaluation leaves on a term: UNKNOWN on an unusable point, else by its test on the presented value. -/
def termLatch (s : State) (t : Term) : Latch :=
  match s.point? t.point with
  | some r => if r.usable then testLatch t.test t.threshold t.hysteresis t.latch (s.presented t.point r) else .latchUnknown
  | none => .latchUnknown

/-- The terms that test a changed point are evaluated, the others left as they were (R50). -/
def evalTerms (s : State) (changed : List PointId) (terms : List Term) : List Term :=
  terms.map fun t => if changed.contains t.point then { t with latch := termLatch s t } else t

/-! ### Entry states (R51 to R55) -/

/-- An entry enters RELEASING with its timer started, or PERMIT where its delay is 0 (R51, R52). -/
def Entry.startRelease (e : Entry) : Entry :=
  if e.delay = 0 then { e with state := .permit, timer := none }
  else { e with state := .releasing, timer := some (ticksOfMs e.delay) }

/-- An entry falls out of RELEASING or PERMIT (R54). -/
def Entry.fall (e : Entry) : Entry :=
  { e with state := if e.latching then .latched else .blocked, timer := none }

/-- An entry after an evaluation of its terms (R45, R51, R54, R55). -/
def Entry.settle (e : Entry) (terms : List Term) : Entry :=
  let e1 := { e with terms := terms, cause := causeOf terms }
  match e.state, allTrue terms with
  | .blocked, true => e1.startRelease
  | .releasing, false => e1.fall
  | .permit, false => e1.fall
  | _, _ => e1

/-- An entry with every latch UNKNOWN, BLOCKED, its timer stopped and cause UNUSABLE term 0 (R43, R57). -/
def Entry.blockedAfresh (e : Entry) : Entry :=
  let terms := e.terms.map fun t => { t with latch := .latchUnknown }
  { e with terms := terms, state := .blocked, cause := causeOf terms, timer := none }

/-- Stores an entry and raises its notice where its state or cause changed (R56). -/
def Work.storeEntry (w : Work) (i : EntryIx) (old new : Entry) : Work :=
  let w1 := w.put (w.st.setEntry i new)
  if old.state ≠ new.state ∨ old.cause ≠ new.cause then w1.notice (.interlock i) else w1

/-! ### The effective value (R59) -/

/-- Every defined entry that targets the point is PERMIT. -/
def State.permitted (s : State) (p : PointId) : Bool :=
  s.entries.all fun e => decide (e.2.target ≠ p) || decide (e.2.state = .permit)

/-- The effective value of a DO point, by the first row of R59 that applies. -/
def State.gate (s : State) (p : PointId) (r : Point) (f : DoFields) : Bool :=
  match s.dev.mode, s.dev.safeAction with
  | .config, _ => f.fail
  | .safe, .drop => f.fail
  | .safe, .hold => if s.permitted p then f.held.getD f.fail else f.fail
  | .run, _ => if s.permitted p then (if r.forced then s.presented p r = 1 else f.commanded) else f.fail

/-- The effective value of a DO point is recomputed; a change raises the point's notice (R61, R62). -/
def Work.regate (w : Work) (p : PointId) : Work :=
  match w.st.point? p with
  | some r =>
    match r.body with
    | .dout f => w.storePoint p r { r with body := .dout { f with effective := w.st.gate p r f } }
    | _ => w
  | none => w

/-- The entry has a term that tests one of the points. -/
def Entry.testsAny (e : Entry) (changed : List PointId) : Bool :=
  e.terms.any fun t => changed.contains t.point

/-- One affected entry: its terms on the changed points, its state, cause and notice, then its target (R50). -/
def Work.evalEntry (changed : List PointId) (w : Work) (i : EntryIx) : Work :=
  match w.st.entry? i with
  | some e =>
    if e.testsAny changed then
      (w.storeEntry i e (e.settle (evalTerms w.st changed e.terms))).regate e.target
    else w
  | none => w

/-- Every term that tests a changed point is re-evaluated, entry by entry in ascending index (R50). A target's own change is
not handed to terms here: START refuses a term on a DO that an entry targets (R44). -/
def Work.evaluate (w : Work) (changed : List PointId) : Work :=
  w.st.entryIds.foldl (Work.evalEntry changed) w

/-- The effective value of a DO point in the record. -/
def State.effective? (s : State) (p : PointId) : Option Bool :=
  match s.point? p with
  | some r => match r.body with
    | .dout f => some f.effective
    | _ => none
  | none => none

/-- The effective value is recomputed, and a change is handed to the terms that test the point (R61, R62). -/
def Work.drive (w : Work) (p : PointId) : Work :=
  let w1 := w.regate p
  if w.st.effective? p ≠ w1.st.effective? p then w1.evaluate [p] else w1

end Sys2Proof.Machine
end

