-- ==== Sys2Proof/Machine/Points.lean ====
section
/-! DEFINITION. Samples, qualities, derived points and forces: how an event moves the points (R4 to R18, R38 to R42, R75 to
R77, R185). -/

namespace Sys2Proof.Machine

/-! ### Derived points (R38 to R41) -/

/-- The ids of the derived points that name a point as a source, ascending. The manual gives no order in which they are recomputed
and raise their notices (DESIGN CHOICE, log entry 16). -/
def State.derivedOf (s : State) (p : PointId) : List PointId :=
  (s.points.filter fun e =>
    match e.2.body with
    | .derived f => f.sourceA = p || f.sourceB = p
    | _ => false).map Prod.fst

/-- A source's quality in the comparison of R39: a forced source counts as GOOD. -/
def Point.sourceQuality (r : Point) : Quality :=
  if r.forced then .good else r.quality

/-- The candidate of a derived point (R38). -/
def DerivedKind.apply (k : DerivedKind) (a b : Int) : Int :=
  match k with
  | .sum => a + b
  | .diff => a - b

/-- A derived point's record recomputed from its sources (R38, R39); left as it is where a source is undefined. -/
def State.derive (s : State) (r : Point) (f : DerivedFields) : Point :=
  match s.point? f.sourceA, s.point? f.sourceB with
  | some a, some b =>
    { r with
      quality := a.sourceQuality.worse b.sourceQuality
      body := .derived { f with
        analog := f.analog.take (f.kind.apply (s.presented f.sourceA a) (s.presented f.sourceB b)) } }
  | _, _ => r

/-- Recomputes a derived point, raises its notice (R41), and adds it to the points whose change reaches terms. -/
def Work.recompute (acc : Work × List PointId) (d : PointId) : Work × List PointId :=
  match acc.1.st.point? d with
  | some r =>
    match r.body with
    | .derived f =>
      let new := acc.1.st.derive r f
      (acc.1.storePoint d r new, if handsOn r new then acc.2 ++ [d] else acc.2)
    | _ => acc
  | none => acc

/-- A point's change is handed to its derived points and then to the terms (R13, R40, R50, R185). The terms on the point and on its
derived points are evaluated in one pass over the entries, as R75 and R185 say for forces and line moves; for a sample, a new identity
and STOP no rule says whether the pass is one (DESIGN CHOICE, log entry 43). -/
def Work.handOn (w : Work) (p : PointId) : Work :=
  let r := (w.st.derivedOf p).foldl Work.recompute (w, [p])
  r.1.evaluate r.2

/-- A point takes its new record, completely: its notice, its derived points, the terms (R13, R185). -/
def Work.changePoint (w : Work) (p : PointId) (old new : Point) : Work :=
  let w1 := w.storePoint p old new
  if handsOn old new then w1.handOn p else w1

/-! ### Qualities (R4, R6) -/

/-- A point enters a quality: UNSEEN, LOST and BAD clear the confirmed flag and the qualification state, the others keep
both (R4, R6). BAD by a readback keeps its mismatch count (R6). -/
def Point.enter (r : Point) (q : Quality) : Point :=
  match q with
  | .unseen | .lost | .bad =>
    { r with
      quality := q
      confirmed := false
      body := match r.body with
        | .di f => .di { f with candidate := none, run := 0 }
        | .ai f => .ai { f with validRun := 0 }
        | .dout f => if q = .bad then .dout f else .dout { f with mismatch := 0 }
        | .derived f => .derived f }
  | _ => { r with quality := q }

/-! ### Samples (R5, R7, R9, R10, R12) -/

/-- The candidate and the run count after a DI sample (R7). -/
def diStep (f : DiFields) (v : Bool) : DiFields :=
  if f.candidate = some v then { f with run := min (f.run + 1) f.depth }
  else { f with candidate := some v, run := 1 }

/-- A DI record after a valid sample (R5, R7). -/
def sampleDi (r : Point) (f : DiFields) (v : Bool) : Point :=
  let g := diStep f v
  let confirms := decide (g.run = f.depth)
  let confirmed := confirms || r.confirmed
  { r with
    confirmed := confirmed
    quality := qualityOfConfirmed confirmed
    body := .di { g with qualified := if confirms then v else f.qualified } }

/-- An AI record after a channel word (R5, R9, R10, R28). -/
def sampleAi (r : Point) (f : AiFields) (word : Word16) : Point :=
  if word.getLsbD 15 then r.enter .bad
  else
    let run := min (f.validRun + 1) f.settle
    let confirmed := decide (run = f.settle) || r.confirmed
    { r with
      confirmed := confirmed
      quality := qualityOfConfirmed confirmed
      body := .ai { f with validRun := run, analog := f.analog.take (scaleRaw f (word.toNat % 4096)) } }

/-- A DO record after a readback (R12). A DO that was BAD with count 2, became STALE, and whose next readback differs is BAD again:
R12's last row has it stay BAD, while R14 has an unconfirmed STALE point become SETTLING (DESIGN CHOICE, log entry 35). -/
def sampleDo (r : Point) (f : DoFields) (v : Bool) : Point :=
  if v = f.lastSent then
    { r with confirmed := true, quality := .good, body := .dout { f with mismatch := 0 } }
  else if f.mismatch = 0 then
    { r with quality := qualityOfConfirmed r.confirmed, body := .dout { f with mismatch := 1 } }
  else
    { r with confirmed := false, quality := .bad, body := .dout { f with mismatch := 2 } }

/-- A bit of a discrete image: channel k is bit k mod 8 of byte ⌊k/8⌋ (conventions, R133). -/
def imageBit (image : List Byte) (k : Nat) : Bool :=
  (image.getD (k / 8) 0).getLsbD (k % 8)

/-- The word of an AI channel (R133). -/
def imageWord (words : List Byte) (i : Nat) : Word16 :=
  wordOf (words.getD (2 * i) 0) (words.getD (2 * i + 1) 0)

/-- The three parts of a good reply: DI image, AI words, readback image (R133). -/
structure ReplyParts where
  di : List Byte
  ai : List Byte
  readback : List Byte
  deriving DecidableEq, Repr

/-- Splits a reply's bytes by the line's settings (R133). -/
def splitReply (c : LineSettings) (body : List Byte) : ReplyParts :=
  ⟨body.take c.diBytes, (body.drop c.diBytes).take (2 * c.aiChannels), body.drop (c.diBytes + 2 * c.aiChannels)⟩

/-- A point's record after its sample of a good reply; a derived point takes none. -/
def sampleOfReply (parts : ReplyParts) (r : Point) : Point :=
  match r.body with
  | .di f => sampleDi r f (imageBit parts.di r.channel)
  | .ai f => sampleAi r f (imageWord parts.ai r.channel)
  | .dout f => sampleDo r f (imageBit parts.readback r.channel)
  | .derived _ => r

/-- One point of the station takes its sample, completely. -/
def Work.sampleOne (parts : ReplyParts) (w : Work) (p : PointId) : Work :=
  match w.st.point? p with
  | some r => w.changePoint p r (sampleOfReply parts r)
  | none => w

/-- A good reply is delivered: the station's points in ascending id, each completely before the next (R13, R133). -/
def Work.deliver (w : Work) (st : Station) (parts : ReplyParts) : Work :=
  (w.st.stationIds st).foldl (Work.sampleOne parts) w

/-! ### Quality moves of a station (R14 to R17, R185) -/

/-- One point moves to the quality that the event gives it from its present one, if any. -/
def Work.moveOne (next : Quality → Option Quality) (w : Work) (p : PointId) : Work :=
  match w.st.point? p with
  | some r =>
    match next r.quality with
    | some q => w.changePoint p r (r.enter q)
    | none => w
  | none => w

/-- The points of a list of ids move, each completely before the next. -/
def Work.moveAll (w : Work) (ids : List PointId) (next : Quality → Option Quality) : Work :=
  ids.foldl (Work.moveOne next) w

/-- The stale limit: GOOD, SETTLING and BAD enter STALE (R14). -/
def toStale : Quality → Option Quality
  | .good | .settling | .bad => some .stale
  | _ => none

/-- A loss: everything but UNSEEN enters LOST (R15). -/
def toLost : Quality → Option Quality
  | .unseen => none
  | _ => some .lost

/-- A window granted: every quality enters HELD (R16). -/
def toHeld : Quality → Option Quality := fun _ => some .held

/-- A window closed: HELD enters STALE (R16). -/
def heldToStale : Quality → Option Quality
  | .held => some .stale
  | _ => none

/-- The hold limit: HELD enters LOST (R16). -/
def heldToLost : Quality → Option Quality
  | .held => some .lost
  | _ => none

/-- A new identity: every quality enters UNSEEN (R17). -/
def toUnseen : Quality → Option Quality := fun _ => some .unseen

/-- STOP: every quality enters LOST, UNSEEN among them (R18). -/
def allToLost : Quality → Option Quality := fun _ => some .lost

/-- The points of a line's station move (R185). -/
def Work.moveStation (w : Work) (l : LineNo) (next : Quality → Option Quality) : Work :=
  w.moveAll (w.st.stationIds (stationOfLine l)) next

/-- The ids of the points of CAB, SPR-A and SPR-B, ascending. -/
def State.remoteIds (s : State) : List PointId :=
  (s.points.filter fun e => e.2.onStation .cab || e.2.onStation .sprA || e.2.onStation .sprB).map Prod.fst

/-! ### Local pin samples (R22) -/

/-- A trolley point's record after a pin sample. The drive is the level each OUT pin drove when the levels were taken. -/
def sampleOfPins (direction levels : Word16) (driven : Nat → Option Bool) (r : Point) : Point :=
  match r.body with
  | .di f => if direction.getLsbD r.channel then r else sampleDi r f (levels.getLsbD r.channel)
  | .dout f =>
    match driven r.channel with
    | some d => sampleDo { r with body := .dout { f with lastSent := d } } { f with lastSent := d } (levels.getLsbD r.channel)
    | none => r
  | _ => r

/-- One trolley point takes its pin sample, completely. -/
def Work.samplePin (direction levels : Word16) (driven : Nat → Option Bool) (w : Work) (p : PointId) : Work :=
  match w.st.point? p with
  | some r => w.changePoint p r (sampleOfPins direction levels driven r)
  | none => w

/-! ### Forces (R75 to R77) -/

/-- The point's forced flag follows the Force List. -/
def Point.setForced (r : Point) (b : Bool) : Point :=
  { r with forced := b }

/-- With its report flag off, an analog point's last recorded value takes the value it presents after a force or a release
directly (R75; DEDUCED for a release, log entry 5). -/
def State.recordUnreported (s : State) (p : PointId) : State :=
  s.modifyPoint p fun r => if r.report then r else r.setRecorded (s.presented p r)

/-- The order of R75 after a change of a point's force: notice, derived points, terms, and for a DO its effective value. -/
def Work.forceChanged (w : Work) (p : PointId) : Work :=
  (((w.put (w.st.recordUnreported p)).notice (.point p)).handOn p).drive p

/-- One point's force is released (R76). -/
def Work.releaseForce (w : Work) (p : PointId) : Work :=
  let s := w.st.setForces (w.st.forces.filter fun f => f.point ≠ p)
  (w.put (s.modifyPoint p fun r => r.setForced false)).forceChanged p

/-- The Force List is emptied from position 1 upward (R77). -/
def Work.emptyForces (w : Work) : Work :=
  (w.st.forces.map ForceEntry.point).foldl Work.releaseForce w

end Sys2Proof.Machine
end

