-- ==== Sys2Proof/Machine/ForceRequests.lean ====
section
/-! DEFINITION. The requests of the Force List: FORCE and RELEASE (R71 to R79). -/

namespace Sys2Proof.Machine

/-- The Force List with an entry for the point: replaced in place, or appended (R73). -/
def placeForce (e : ForceEntry) (fs : List ForceEntry) : List ForceEntry :=
  if fs.any fun f => f.point = e.point then fs.map fun f => if f.point = e.point then e else f else fs ++ [e]

/-- A FORCE that passed its checks is taken: no event where it changes nothing, else the order of R75. -/
def State.takeForce (s : State) (e : ForceEntry) : State :=
  if s.forceOf e.point = some e then s
  else
    s.event fun w =>
      let s1 := w.st.setForces (placeForce e w.st.forces)
      (w.put (s1.modifyPoint e.point fun r => r.setForced true)).forceChanged e.point

/-- FORCE: its five checks in order, then the force (R73 to R75). -/
def force (ps : List Byte) (s : State) : State × Answer :=
  if s.dev.mode ≠ .run then refuse s .mode
  else if ps.length ≠ 3 then refuse s .badLength
  else
    let p := idOf (byteAt ps 0)
    match s.point? p with
    | none => refuse s .noSuch
    | some r =>
      match takenForce r (intAt ps 1) with
      | none => refuse s .badValue
      | some vr =>
        if (s.forceOf p).isNone ∧ 16 ≤ s.forces.length then refuse s .noRoom
        else
          (s.takeForce ⟨p, vr.1, vr.2⟩,
            .reply .ok ([idByte p] ++ intBytes vr.1 ++ [vr.2.code, byteOf (forcePosition p s.forces)]))

/-- RELEASE: a point that is not on the list is answered OK with no change (R76). -/
def release (ps : List Byte) (s : State) : State × Answer :=
  if s.dev.mode ≠ .run then refuse s .mode
  else if ps.length ≠ 1 then refuse s .badLength
  else
    let p := idOf (byteAt ps 0)
    let s1 := if (s.forceOf p).isSome then s.event fun w => w.releaseForce p else s
    (s1, .reply .ok [byteOf s1.forces.length])

/-- FORCE: request 0x14 (R73). -/
def execForce (tag : Byte) (ps : List Byte) (s : State) : Result := runRequest 0x14 tag (force ps) s

/-- RELEASE: request 0x15 (R76). -/
def execRelease (tag : Byte) (ps : List Byte) (s : State) : Result := runRequest 0x15 tag (release ps) s

end Sys2Proof.Machine
end

