-- ==== Sys2Proof/Machine/InterlockRequests.lean ====
section
/-! DEFINITION. The requests of the Interlock Evaluator: DEFINE INTERLOCK, CLEAR INTERLOCK, READ INTERLOCK, ACKNOWLEDGE (R65
to R68). -/

namespace Sys2Proof.Machine

/-- DEFINE INTERLOCK: its five checks in order, then the old definition and its queue record or mark leave, and the new entry
stands (R65). -/
def defineInterlock (ps : List Byte) (s : State) : State × Answer :=
  if s.dev.mode ≠ .config then refuse s .mode
  else if ps.length < 6 then refuse s .badLength
  else if (byteAt ps 5).toNat < 1 ∨ 8 < (byteAt ps 5).toNat then refuse s .badValue
  else if ps.length ≠ 6 + 6 * (byteAt ps 5).toNat then refuse s .badLength
  else
    match indexOf? (byteAt ps 0), readEntry ps with
    | some i, some e => ((s.forgetKey (.interlock i)).setEntry i e, .reply .ok (e.definitionBytes i))
    | _, _ => refuse s .badValue

/-- Removes an entry. -/
def State.eraseEntry (s : State) (i : EntryIx) : State :=
  { s with entries := tableErase i s.entries }

/-- CLEAR INTERLOCK (R66). -/
def clearInterlock (ps : List Byte) (s : State) : State × Answer :=
  if s.dev.mode ≠ .config then refuse s .mode
  else if ps.length ≠ 1 then refuse s .badLength
  else
    match indexOf? (byteAt ps 0) with
    | none => refuse s .badValue
    | some i =>
      match s.entry? i with
      | none => refuse s .noSuch
      | some _ => ((s.forgetKey (.interlock i)).eraseEntry i, .reply .ok [])

/-- READ INTERLOCK (R67). -/
def readInterlock (ps : List Byte) (s : State) : State × Answer :=
  if ps.length ≠ 1 then refuse s .badLength
  else
    match indexOf? (byteAt ps 0) with
    | none => refuse s .badValue
    | some i => (s, .reply .ok (s.entryBytes i))

/-- A LATCHED entry with every latch TRUE starts its release (R68); its notice, then its target. -/
def Work.acknowledge (w : Work) (i : EntryIx) (e : Entry) : Work :=
  (w.storeEntry i e e.startRelease).drive e.target

/-- ACKNOWLEDGE (R68). -/
def acknowledge (ps : List Byte) (s : State) : State × Answer :=
  if s.dev.mode = .config then refuse s .mode
  else if ps.length ≠ 1 then refuse s .badLength
  else
    match indexOf? (byteAt ps 0) with
    | none => refuse s .badValue
    | some i =>
      match s.entry? i with
      | none => refuse s .noSuch
      | some e =>
        match e.state with
        | .latched =>
          if allTrue e.terms then (s.event fun w => w.acknowledge i e, .reply .ok []) else refuse s .notClear
        | _ => (s, .reply .ok [])

/-- DEFINE_INTERLOCK: request 0x20 (R65). -/
def execDefineInterlock (tag : Byte) (ps : List Byte) (s : State) : Result := runRequest 0x20 tag (defineInterlock ps) s

/-- CLEAR_INTERLOCK: request 0x21 (R66). -/
def execClearInterlock (tag : Byte) (ps : List Byte) (s : State) : Result := runRequest 0x21 tag (clearInterlock ps) s

/-- READ_INTERLOCK: request 0x22 (R67). -/
def execReadInterlock (tag : Byte) (ps : List Byte) (s : State) : Result := runRequest 0x22 tag (readInterlock ps) s

/-- ACKNOWLEDGE: request 0x23 (R68). -/
def execAcknowledge (tag : Byte) (ps : List Byte) (s : State) : Result := runRequest 0x23 tag (acknowledge ps) s

end Sys2Proof.Machine
end

