-- ==== Sys2Proof/Machine/Signalling.lean ====
section
/-! DEFINITION. Drop line signalling: the hunt, the lock, the sender's turns and the receiver's telegram lengths (chapter 5). -/

namespace Sys2Proof.Machine

/-! ### The hunt (R96, R97, R99) -/

/-- One dwell at a rate under AUTO: 20 ms (R96). -/
def dwellTicks : Nat := ticksOfMs 20

/-- The next rate of the AUTO order 2M, 1M, 250k (R96). -/
def Rate.next : Rate → Rate
  | .r2M => .r1M
  | .r1M => .r250k
  | .r250k => .r2M

/-- The hunt's runs are cleared and its search for alignment starts afresh (R96). -/
def Line.clearRuns (L : Line) : Line :=
  { L with straightRuns := Vector.replicate 5 0, complementRuns := Vector.replicate 5 0, huntBits := [], huntPos := 0 }

/-- A hunt starts at the first rate of its order, from lock state ACQUIRE (R96, R107). -/
def Line.startHunt (L : Line) : Line :=
  { L.clearRuns with
    lock := .acquire
    huntRate := L.settings.rate.getD .r2M
    dwell := if L.settings.rate.isNone then some dwellTicks else none
    silence := 0
    receiver := .outside }

/-- Five bits as a code, the earliest the most significant. -/
def codeOfBits (bits : List Bool) : Code5 :=
  bits.foldl (fun acc b => (acc <<< 1) ||| (if b then 1 else 0)) 0

/-- The hunt examines one bit: the five most recent bits are a code at the alignment of this bit's position (R97). -/
def Line.huntBit (L : Line) (b : Bool) : Line :=
  let bits := (L.huntBits ++ [b]).drop (L.huntBits.length + 1 - 5)
  let at_ := L.huntPos
  let L1 := { L with huntBits := bits, huntPos := at_ + 1 }
  if bits.length < 5 then L1
  else
    let code := codeOfBits bits
    if code = fillCode then
      { L1 with
        straightRuns := L.straightRuns.set at_ (L.straightRuns[at_] + 1)
        complementRuns := L.complementRuns.set at_ 0 }
    else if code = ~~~fillCode then
      { L1 with
        straightRuns := L.straightRuns.set at_ 0
        complementRuns :=
          if L.settings.polarity = .auto then L.complementRuns.set at_ (L.complementRuns[at_] + 1) else L.complementRuns }
    else
      { L1 with straightRuns := L.straightRuns.set at_ 0, complementRuns := L.complementRuns.set at_ 0 }

/-- The lock that a run at an alignment gives when it has reached 8 (R97). -/
def Line.lockAt (L : Line) (at_ : Fin 5) : Option Polarity :=
  if 8 ≤ L.straightRuns[at_] then some .normal
  else if 8 ≤ L.complementRuns[at_] then some .reversed
  else none

/-- The hunt examines bits until a run gives lock: the line then, and the lock's alignment and polarity (R97). -/
def Line.hunt (L : Line) : List Bool → Line × Option (Fin 5 × Polarity)
  | [] => (L, none)
  | b :: rest =>
    let L1 := L.huntBit b
    match L1.lockAt L.huntPos with
    | some pol => (L1, some (L.huntPos, pol))
    | none => L1.hunt rest

/-- The signalling state when the hunt gives lock (R99). -/
def Line.takeLock (L : Line) (at_ : Fin 5) (pol : Polarity) : Line :=
  { L.clearRuns with
    lock := .locked
    lockedRate := some L.huntRate
    polarity := some pol
    alignment := at_
    silence := 0
    dwell := none
    receiver := .outside }

/-! ### The sender (R94, R105, R106) -/

/-- The symbols of the lead-in up to and with OPEN: two FILL and OPEN (R105). -/
def leadInSymbols : Nat := 3

/-- The part drives the pair: a turn is in progress (R93). -/
def Line.driving (L : Line) : Bool :=
  match L.sender with
  | .sending _ _ => true
  | .aborting => true
  | _ => false

/-- The receiver takes what comes: the line has its lock, and the part does not drive the pair (R93, section 5.7). -/
def Line.listens (L : Line) : Bool :=
  L.lock = .locked && !L.driving

/-- A turn begins at once with the receiver OUTSIDE, and waits with the receiver INSIDE (R94). -/
def Line.beginTurn (L : Line) (t : Telegram) : Line :=
  match L.receiver with
  | .outside => { L with sender := .sending t (.leadIn leadInSymbols) }
  | _ => { L with sender := .waiting t }

/-- A telegram is handed to the sender (R94). In the tail of an earlier turn the telegram before it is whole, and the new
turn begins; while an earlier telegram is still to be sent, the new one is kept until that turn ends (DESIGN CHOICE,
log entry 9). -/
def Line.handOver (L : Line) (t : Telegram) : Line :=
  match L.sender with
  | .idle => L.beginTurn t
  | .sending _ .tail => L.beginTurn t
  | _ => { L with nextTelegram := some t }

/-- A WAITING telegram's turn begins when the telegram being received has ended (R94). Where an OPEN has discarded it, the turn waits
for the telegram that this OPEN began: R94 begins the turn at the discard, and has no telegram being received cut off by it (DESIGN
CHOICE, log entry 41). -/
def Line.startWaiting (L : Line) : Line :=
  match L.sender, L.receiver with
  | .waiting t, .outside => { L with sender := .sending t (.leadIn leadInSymbols) }
  | _, _ => L

/-- A telegram being sent is cut short (R106). -/
def Line.cut (L : Line) : Line :=
  let L1 := { L with nextTelegram := none }
  match L.sender with
  | .idle => L1
  | .waiting _ => { L1 with sender := .idle }
  | .sending _ (.leadIn _) => { L1 with sender := .idle }
  | .sending _ .body => { L1 with sender := .aborting }
  | .sending _ .tail => L1
  | .aborting => L1

/-- What a cut has the sender send after the symbol in progress, by the rows of R106: an ABORT and its tail where OPEN has gone
out and SHUT has not. In every other row the cut adds nothing to what goes out: a tail or an ABORT completes as it was. -/
def Sender.cutSends : Sender → List Symbol
  | .sending _ .body => abortTurn
  | .idle | .waiting _ | .sending _ (.leadIn _) | .sending _ .tail | .aborting => []

/-- The codes a cut puts on the pair, under the line's detected polarity (R99, R106). -/
def Line.cutCodes (L : Line) : List Code5 :=
  L.sender.cutSends.map fun x => pairCode L.polarity (codeOf x)

/-- The bits a cut puts on the pair (R95, R106). -/
def Line.cutBits (L : Line) : List Bool :=
  L.cutCodes.flatMap codeBits

/-- A SERVICE telegram that is kept for a later turn is dropped. -/
def Line.dropNextService (L : Line) : Line :=
  match L.nextTelegram with
  | some t => if t.kind = .service then { L with nextTelegram := none } else L
  | none => L

/-- A SERVICE telegram being sent or waiting is cut short; a POLL is not (R89, R106). -/
def Line.cutService (L : Line) : Line :=
  match L.sender with
  | .waiting t => if t.kind = .service then L.cut else L.dropNextService
  | .sending t _ => if t.kind = .service then L.cut else L.dropNextService
  | _ => L.dropNextService

/-- The last tail FILL of a turn has been sent: the sender is IDLE, the pair is released and the receiver resumes OUTSIDE
(R93, R105). -/
def Line.endTurn (L : Line) : Line :=
  let freed := { L with sender := .idle, receiver := .outside, nextTelegram := none }
  match L.nextTelegram with
  | some t => freed.beginTurn t
  | none => freed

/-- One symbol time of the part's own turn: the lead-in runs down to OPEN (R105). -/
def Line.turnSymbol (L : Line) : Line :=
  match L.sender with
  | .sending t (.leadIn n) => { L with sender := .sending t (if n ≤ 1 then .body else .leadIn (n - 1)) }
  | _ => L

/-! ### The receiver (R102 to R104) -/

/-- The reply length of a line: header, DI image, AI words, readback image, check word (R102, R111). -/
def LineSettings.replyLength (c : LineSettings) : Nat :=
  1 + c.diBytes + 2 * c.aiChannels + c.doBytes + 2

/-- The exact or greatest length of a telegram kind, in bytes from the header (R102); absent for kinds no station sends. -/
def expectedLength (c : LineSettings) (kind : Nibble) : Option Nat :=
  match kind.toNat with
  | 2 => some c.replyLength
  | 4 => some 27
  | 5 => some 9
  | _ => none

/-- The line's signalling state when its state becomes OFF (R107). -/
def Line.signalOff (L : Line) : Line :=
  { L.cut.clearRuns with lock := .acquire, dwell := none, silence := 0, receiver := .outside }

end Sys2Proof.Machine
end

