-- ==== Sys2Proof/Machine/Lines.lean ====
section
/-! DEFINITION. The Drop Line Engine: exchanges and their outcomes, service windows, attach, and the telegrams received
(chapters 4, 6 and 7). -/

namespace Sys2Proof.Machine

/-! ### Storing a line -/

/-- The line's record in an event's work. -/
def Work.line (w : Work) (l : LineNo) : Line :=
  w.st.line l

/-- The reported fields of two line records differ (R146). -/
def Line.reportedDiffers (a b : Line) : Bool :=
  decide (a.state ≠ b.state) || decide (a.lockedRate ≠ b.lockedRate) || decide (a.polarity ≠ b.polarity) ||
    decide (a.lastAttached ≠ b.lastAttached) || decide (a.restartCount ≠ b.restartCount)

/-- Stores a line, raising its notice where a reported field changed (R146). -/
def Work.putLine (w : Work) (l : LineNo) (L : Line) : Work :=
  let w1 := w.put (w.st.setLine l L)
  if (w.line l).reportedDiffers L then w1.notice (.line l) else w1

/-! ### The poll timer (R114, R115) -/

/-- One cycle of the poll timer is loaded (R115). -/
def Line.loadCycle (L : Line) : Line :=
  let total := L.accumulator + L.settings.pollPeriod * 32768
  { L with pollTimer := some (total / 1000000), accumulator := total % 1000000 }

/-- The poll timer starts with A = 0 (R114). -/
def Line.startPoll (L : Line) : Line :=
  { L with accumulator := 0 }.loadCycle

/-- An exchange in flight ends without an outcome (R126, R140). -/
def Line.dropExchange (L : Line) : Line :=
  if L.exchange.isSome then { L with exchange := none, replyTimer := none, expiryHeld := false } else L

/-! ### Attempts (R118) -/

/-- The DO image of a station: each defined DO point's effective value at its channel, every other channel 0 (R63). -/
def State.doImage (s : State) (st : Station) (bytes : Nat) : List Byte :=
  (List.range bytes).map fun i =>
    s.points.foldl (fun acc e =>
      match e.2.body with
      | .dout f =>
        if e.2.onStation st && e.2.channel / 8 == i && f.effective then acc ||| ((1 : Byte) <<< (e.2.channel % 8)) else acc
      | _ => acc) 0

/-- Each DO point of the station records the value placed in the image (R11). -/
def State.recordSent (s : State) (st : Station) : State :=
  { s with points := s.points.map fun e =>
      match e.2.body with
      | .dout f =>
        if e.2.onStation st then (e.1, { e.2 with body := .dout { f with lastSent := f.effective } }) else e
      | _ => e }

/-- The next telegram of a line takes its sequence number from the counter, which advances (R118). -/
def Line.nextTelegramOf (L : Line) (kind : TelegramKind) (body : List Byte) : Line × Telegram :=
  ({ L with sequence := L.sequence + 1 }, ⟨kind, L.sequence, body⟩)

/-- An attempt is built and handed to the sender (R118). -/
def State.buildAttempt (s : State) (l : LineNo) (n : Nat) : State :=
  let L := s.line l
  let st := stationOfLine l
  let r := L.nextTelegramOf .poll (s.doImage st L.settings.doBytes)
  let L1 := { r.1 with exchange := some ⟨n, L.sequence, .sending⟩, replyTimer := none, expiryHeld := false }
  (s.recordSent st).setLine l (L1.handOver r.2)

/-! ### Service windows (R80 to R89) -/

/-- A transfer in flight ends with a status, and its reply is handed to the port (R85, R86). -/
def State.endTransfer (s : State) (l : LineNo) (status : Status) (data : List Byte) : State :=
  let L := s.line l
  match L.transfer with
  | some t =>
    match t.progress with
    | .finished _ => s
    | _ => (s.setLine l { L with replyTimer := none, expiryHeld := false }).handReply l t status data
  | none => s

/-- The reply that a closed transfer was receiving is abandoned: its remaining symbols are strays (R89). A telegram of another
kind goes on being received, so that a beacon is then handled as the line state after the closing gives (R145). With only its
OPEN taken, the first symbol will tell. -/
def Line.abandonReply (L : Line) : Line :=
  match L.receiver with
  | .inside [] => { L with receiver := .abandoning }
  | .inside (kind :: _) => if kind = 4 then { L with receiver := .outside } else L
  | _ => L

/-- A telegram discarded for this cause is the reply the line has abandoned, whose symbols are strays (R89, R101). One that ends
before its kind is known counts as that reply (DESIGN CHOICE, log entry 36); a kind no station sends is not its kind. -/
def Line.abandons (L : Line) (cause : BadCause) : Bool :=
  L.receiver = .abandoning && cause ≠ .badKind

/-- A transfer in flight ends CLOSED: its SERVICE telegram is cut short, a reply being received is abandoned (R89). -/
def State.closeTransfer (s : State) (l : LineNo) : State :=
  let L := s.line l
  match L.transfer with
  | some t =>
    match t.progress with
    | .finished _ => s
    | .sending => (s.setLine l L.cutService).endTransfer l .closed []
    | .awaiting => s.endTransfer l .closed []
    | .receiving => (s.setLine l L.abandonReply).endTransfer l .closed []
  | none => s

/-- A window is granted (R83). -/
def Work.grant (w : Work) (l : LineNo) : Work :=
  let L := w.line l
  (w.putLine l { L with
    service := .granted
    state := .service
    pollTimer := none
    holdTimer := some (ticksOfMs L.settings.holdLimit) }).moveStation l toHeld

/-- A granted window is closed, or a pending one cancelled (R88, R89). The line returns to OPERATE, with its poll timer
started where it stays there. The HELD points enter STALE in ascending id, each handled completely before the next, for which R16
and R89 give no order (DESIGN CHOICE, log entry 42). -/
def Work.closeWindow (w : Work) (l : LineNo) (returns : Bool) : Work :=
  let L := w.line l
  match L.service with
  | .none => w
  | .pending => w.put (w.st.setLine l { L with service := .none })
  | .granted =>
    let w1 := w.put (w.st.closeTransfer l)
    let L1 := { w1.line l with service := .none, holdTimer := none, state := .operate }
    (w1.putLine l (if returns then L1.startPoll else L1)).moveStation l heldToStale

/-- A pending window is decided when its exchange has ended: granted with the line still OPERATE (R82). -/
def Work.decidePending (w : Work) (l : LineNo) : Work :=
  let L := w.line l
  if L.service = .pending then
    if L.state = .operate then w.grant l else w.put (w.st.setLine l { L with service := .none })
  else w

/-! ### Outcomes (R121 to R124) -/

/-- A loss at the loss limit: AWAIT_BEACON with its notice, then the points LOST (R124). -/
def Work.lossAtLimit (w : Work) (l : LineNo) : Work :=
  (w.putLine l { w.line l with state := .awaitBeacon, pollTimer := none, failures := 0 }).moveStation l toLost

/-- A failed exchange is applied (R124). -/
def Work.failExchange (w : Work) (l : LineNo) : Work :=
  let L := w.line l
  let n := L.failures + 1
  let w1 := w.put (w.st.setLine l { L with exchange := none, replyTimer := none, expiryHeld := false, failures := n })
  let w2 :=
    if n = L.settings.lossLimit then w1.lossAtLimit l
    else if n = L.settings.staleLimit then w1.moveStation l toStale
    else w1
  w2.decidePending l

/-- An attempt has ended bad or timed out: a retry at once, or the exchange has failed (R121). -/
def Work.attemptEnded (w : Work) (l : LineNo) : Work :=
  let L := w.line l
  match L.exchange with
  | some x =>
    if x.attempt < L.settings.retryLimit + 1 then w.put (w.st.buildAttempt l (x.attempt + 1)) else w.failExchange l
  | none => w

/-- An attempt ends as timed out (R121). -/
def Work.timedOut (w : Work) (l : LineNo) : Work :=
  let L := w.line l
  (w.put (w.st.setLine l { L with timeouts := saturate 65535 L.timeouts })).attemptEnded l

/-- A good exchange is applied (R123). -/
def Work.goodExchange (w : Work) (l : LineNo) (body : List Byte) : Work :=
  let L := w.line l
  let w1 := w.put (w.st.setLine l { L with failures := 0, exchange := none, replyTimer := none, expiryHeld := false })
  (w1.deliver (stationOfLine l) (splitReply L.settings body)).decidePending l

/-- A service transfer ends TIMEOUT by its reply timer (R85, R127). -/
def State.transferTimedOut (s : State) (l : LineNo) : State :=
  let L := s.line l
  (s.setLine l { L with timeouts := saturate 65535 L.timeouts }).endTransfer l .timeout []

/-! ### Telegrams received (R103, R119, R120, R85) -/

/-- The transfer in a line's slot takes a progress. -/
def Line.setProgress (L : Line) (p : TransferProgress) : Line :=
  { L with transfer := L.transfer.map fun t => { t with progress := p } }

/-- The transfer waits for its reply: its SHUT has been sent and it has not ended. -/
def Line.transferWaits (L : Line) : Bool :=
  match L.transfer with
  | some t => t.progress = .awaiting || t.progress = .receiving
  | none => false

/-- The present attempt waits for its reply: its SHUT has been sent. -/
def Line.attemptWaits (L : Line) : Bool :=
  match L.exchange with
  | some x => x.phase = .awaiting || x.phase = .receiving
  | none => false

/-- The present attempt takes a phase. -/
def Line.setPhase (L : Line) (ph : AttemptPhase) : Line :=
  { L with exchange := L.exchange.map fun x => { x with phase := ph } }

/-- An intact telegram completes neither the attempt nor the transfer: the wait goes on, or ends timed out where the
reply timer's expiry was held (R119, R85). -/
def Work.notCompleting (w : Work) (l : LineNo) : Work :=
  let L := w.line l
  match L.state with
  | .operate =>
    if L.attemptWaits then
      if L.expiryHeld then w.timedOut l else w.put (w.st.setLine l (L.setPhase .awaiting))
    else w
  | .service =>
    if L.transferWaits then
      if L.expiryHeld then w.put (w.st.transferTimedOut l) else w.put (w.st.setLine l (L.setProgress .awaiting))
    else w
  | _ => w

/-- An intact REPLY is handled by the line state, the attempt's phase and the sequence number (R120). -/
def Work.replyReceived (w : Work) (l : LineNo) (seq : Nibble) (body : List Byte) : Work :=
  let L := w.line l
  match L.state, L.exchange with
  | .operate, some x => if L.attemptWaits && x.seq = seq then w.goodExchange l body else w.notCompleting l
  | _, _ => w.notCompleting l

/-- An intact SERVICE REPLY ends the transfer it answers with OK and its payload (R85). -/
def Work.serviceReplyReceived (w : Work) (l : LineNo) (seq : Nibble) (payload : List Byte) : Work :=
  let L := w.line l
  match L.state, L.transfer with
  | .service, some t =>
    if L.transferWaits && t.seq = seq then w.put (w.st.endTransfer l .ok payload) else w.notCompleting l
  | _, _ => w.notCompleting l

/-- A bad telegram is counted and ends the attempt or the transfer that waits (R103, R121, R85). -/
def Work.badReceived (w : Work) (l : LineNo) : Work :=
  let L := { w.line l with badTelegrams := saturate 65535 (w.line l).badTelegrams }
  let w1 := w.put (w.st.setLine l L)
  match L.state with
  | .operate => if L.attemptWaits then w1.attemptEnded l else w1
  | .service => if L.transferWaits then w1.put (w1.st.endTransfer l .timeout []) else w1
  | _ => w1

/-! ### Beacons (R135 to R144) -/

/-- An accepted beacon matches its line (R136). -/
def LineSettings.matches (c : LineSettings) (i : Identity) : Bool :=
  decide (i.type = c.expectedType) && (!c.exact || decide (i.serial = c.serial))

/-- The identity of an identity word (11.2). -/
def identityOf (word : Word16) : Identity :=
  ⟨word.extractLsb' 8 8, word.extractLsb' 0 8⟩

/-- A matching beacon attaches its station from AWAIT_BEACON or REJECTED (R137, R139). -/
def Work.attach (w : Work) (l : LineNo) (i : Identity) : Work :=
  let L := w.line l
  let isNew := decide (L.lastAttached ≠ some i)
  let L1 := if isNew then { L with lastAttached := some i, restartCount := 0 } else L
  let w1 := w.putLine l { L1 with state := .operate }.startPoll
  if isNew then w1.moveStation l toUnseen else w1

/-- A beacon in OPERATE first abandons the exchange in flight, and with it a pending window (R140). -/
def Work.abandonExchange (w : Work) (l : LineNo) : Work :=
  let L := (w.line l).dropExchange
  w.put (w.st.setLine l (if L.service = .pending then { L with service := .none } else L))

/-- A station restart (R141): the notice is raised although the count may stay at 255. -/
def Work.stationRestart (w : Work) (l : LineNo) : Work :=
  let L := w.line l
  (w.put (w.st.setLine l { L with restartCount := saturate 255 L.restartCount })).notice (.line l)

/-- A spreader exchange (R142). -/
def Work.spreaderExchange (w : Work) (l : LineNo) (i : Identity) : Work :=
  (w.putLine l { w.line l with lastAttached := some i, restartCount := 0 }).moveStation l toUnseen

/-- The station on a polling line is refused (R143). -/
def Work.stationRefused (w : Work) (l : LineNo) : Work :=
  (w.putLine l { w.line l with state := .rejected, pollTimer := none, failures := 0 }).moveStation l toLost

/-- An accepted beacon on a line in OPERATE (R140 to R143). -/
def Work.beaconInOperate (w : Work) (l : LineNo) (i : Identity) : Work :=
  let w1 := w.abandonExchange l
  let L := w1.line l
  if L.settings.matches i then
    if L.lastAttached = some i then w1.stationRestart l else w1.spreaderExchange l i
  else w1.stationRefused l

/-- An accepted beacon, by line state (R136 to R144). -/
def Work.beaconAccepted (w : Work) (l : LineNo) (i : Identity) : Work :=
  let L := { w.line l with lastBeacon := some i }
  let w1 := w.put (w.st.setLine l L)
  match L.state with
  | .awaitBeacon => if L.settings.matches i then w1.attach l i else w1.putLine l { L with state := .rejected }
  | .rejected => if L.settings.matches i then w1.attach l i else w1
  | .operate => w1.beaconInOperate l i
  | .service => (w1.closeWindow l true).beaconInOperate l i
  | _ => w

/-- The form test of R135: sequence number 0 and four equal identity words. -/
def beaconFormGood (seq : Nibble) (w0 w1 w2 w3 : Word16) : Bool :=
  seq == 0 && w0 == w1 && w1 == w2 && w2 == w3

/-- An intact beacon is tested for form, and is accepted, or discarded and counted (R135). -/
def Work.beaconReceived (w : Work) (l : LineNo) (seq : Nibble) (w0 w1 w2 w3 : Word16) : Work :=
  if beaconFormGood seq w0 w1 w2 w3 then w.beaconAccepted l (identityOf w0)
  else
    let L := w.line l
    (w.put (w.st.setLine l { L with beaconDiscards := saturate 65535 L.beaconDiscards })).notCompleting l

/-! ### The end of a telegram on the pair -/

/-- A WAITING telegram's turn begins once the telegram's end has been handled (R94). -/
def Work.afterTelegram (w : Work) (l : LineNo) : Work :=
  w.put (w.st.setLine l (w.line l).startWaiting)

/-- A telegram ends on a line that listens: the receiver is OUTSIDE, the end is handled, and a WAITING turn begins (R94, R104).
ACQUIRE and OFF deliver no telegrams (R120), and while the part drives the pair its receiver takes nothing (R93). -/
def Work.telegramEnds (w : Work) (l : LineNo) (handle : Work → Work) : Work :=
  let L := w.line l
  if L.listens then
    (handle (w.put (w.st.setLine l { L with receiver := .outside }))).afterTelegram l
  else w

/-- A telegram is discarded as bad: a discarding OPEN begins a new telegram, a discarding FILL clears the silence count
(R103). A WAITING turn does not begin while the telegram of such an OPEN is received (DESIGN CHOICE, log entry 41). The symbols of an
abandoned reply are strays, and nothing is counted (R89, R101). -/
def Work.discardTelegram (w : Work) (l : LineNo) (cause : BadCause) : Work :=
  let abandoned := (w.line l).abandons cause
  w.telegramEnds l fun w1 =>
    let L := w1.line l
    let L1 :=
      match cause with
      | .openInside => { L with receiver := .inside [] }
      | .fillInside => { L with silence := 0 }
      | _ => L
    let w2 := w1.put (w1.st.setLine l L1)
    if abandoned then w2 else w2.badReceived l

/-- An intact REPLY is received: of another length than the line's it is bad (R104), else it is handled (R120). Its kind is known,
so it is no abandoned reply. -/
def Work.takeReply (w : Work) (l : LineNo) (seq : Nibble) (body : List Byte) : Work :=
  w.telegramEnds l fun w1 =>
    if body.length + 3 = (w1.line l).settings.replyLength then w1.replyReceived l seq body else w1.badReceived l

/-- An intact SERVICE REPLY is received: with more than 24 payload bytes it is bad (R104), else it is handled (R85). -/
def Work.takeServiceReply (w : Work) (l : LineNo) (seq : Nibble) (payload : List Byte) : Work :=
  if payload.length ≤ 24 then w.telegramEnds l fun w1 => w1.serviceReplyReceived l seq payload
  else w.discardTelegram l .badLength

/-- An intact BEACON is received (R135). -/
def Work.takeBeacon (w : Work) (l : LineNo) (seq : Nibble) (w0 w1 w2 w3 : Word16) : Work :=
  w.telegramEnds l fun v => v.beaconReceived l seq w0 w1 w2 w3

/-- An OPEN is received on a line that listens (R102); inside a telegram it discards that one (R103). While the part drives the
pair, the tail of its turn with it, its receiver takes nothing (R93). -/
def Work.takeOpen (w : Work) (l : LineNo) : Work :=
  let L := w.line l
  if L.listens then
    match L.receiver with
    | .outside =>
      let L1 := { L with receiver := .inside [] }
      let L2 := if L.attemptWaits then L1.setPhase .receiving else L1
      w.put (w.st.setLine l (if L.transferWaits then L2.setProgress .receiving else L2))
    | _ => w.discardTelegram l .openInside
  else w

/-! ### Lock loss and line restart (R100, R128) -/

/-- The line leaves for ACQUIRE and hunts from the first rate: exchange and poll timer end, F is 0 (R107, R114, R122). -/
def Line.toAcquire (L : Line) : Line :=
  { L.cut.dropExchange.startHunt with state := .acquire, pollTimer := none, failures := 0 }

/-- Lock is lost (R100): the window is closed first, the line moves to ACQUIRE, and the points of a line that polled or was
in SERVICE are LOST. -/
def Work.lockLost (w : Work) (l : LineNo) : Work :=
  let polled := decide ((w.line l).state = .operate) || decide ((w.line l).state = .service)
  let w1 := w.closeWindow l false
  let w2 := w1.putLine l (w1.line l).toAcquire
  if polled then w2.moveStation l toLost else w2

/-- The silence count advances by one symbol time without FILL; at 2048 the lock is lost (R100). -/
def Work.noFill (w : Work) (l : LineNo) : Work :=
  let L := w.line l
  if L.lock = .locked then
    let n := min (L.silence + 1) 2048
    let w1 := w.put (w.st.setLine l { L with silence := n })
    if n = 2048 then w1.lockLost l else w1
  else w

/-- A restart of a line that is not OFF (R128, steps 1 to 6). -/
def Work.restart (w : Work) (l : LineNo) : Work :=
  let w1 := w.closeWindow l false
  let L := (w1.line l).toAcquire
  (w1.putLine l { L with badTelegrams := 0, timeouts := 0, slips := 0 }).moveStation l toLost

/-- A line goes to OFF at STOP (R110, R107). -/
def Work.lineOff (w : Work) (l : LineNo) : Work :=
  if (w.line l).state = .off then w
  else
    let w1 := w.closeWindow l false
    let L := (w1.line l).dropExchange.signalOff
    w1.putLine l { L with state := .off, pollTimer := none, failures := 0 }

/-- An enabled line leaves OFF for ACQUIRE at START (R110). -/
def Work.lineOn (w : Work) (l : LineNo) : Work :=
  let L := w.line l
  if L.settings.enable then w.putLine l { L.startHunt with state := .acquire } else w

end Sys2Proof.Machine
end

