-- ==== Sys2Proof/Machine/LineEvents.lean ====
section
/-! DEFINITION. The events of a drop line: its timers, its sender's turns, its hunt and lock, and the symbols and telegrams it
receives (chapters 5 to 7, R87). -/

namespace Sys2Proof.Machine

/-! ### Timers (R87, R96, R116, R119) -/

/-- The poll timer expires: its next cycle is loaded, and an exchange starts or a slip is counted (R115, R116). -/
def State.pollExpired (s : State) (l : LineNo) : State :=
  let L := s.line l
  if L.state = .operate ∧ L.pollTimer.isSome then
    if L.exchange.isSome then s.setLine l { L.loadCycle with slips := saturate 65535 L.slips }
    else (s.setLine l L.loadCycle).buildAttempt l 1
  else s

/-- The reply timer expires: in AWAITING the attempt or the transfer ends as timed out, in RECEIVING the expiry is held
(R85, R119). -/
def Work.replyExpired (w : Work) (l : LineNo) : Work :=
  let L := w.line l
  if L.replyTimer.isNone then w
  else
    match L.exchange, L.transfer with
    | some x, _ =>
      match x.phase with
      | .awaiting => w.timedOut l
      | .receiving => w.put (w.st.setLine l { L with replyTimer := none, expiryHeld := true })
      | .sending => w
    | none, some t =>
      match t.progress with
      | .awaiting => w.put (w.st.transferTimedOut l)
      | .receiving => w.put (w.st.setLine l { L with replyTimer := none, expiryHeld := true })
      | _ => w
    | none, none => w

/-- The hold timer expires with the window open: HELD points are LOST, the window stays open (R16, R87). -/
def Work.holdExpired (w : Work) (l : LineNo) : Work :=
  let L := w.line l
  if L.service = .granted ∧ L.holdTimer.isSome then
    (w.put (w.st.setLine l { L with holdTimer := none })).moveStation l heldToLost
  else w

/-- The dwell timer expires: the next rate, runs cleared, the timer loaded again (R96). -/
def Line.dwellExpired (L : Line) : Line :=
  if L.dwell.isSome then { L.clearRuns with huntRate := L.huntRate.next, dwell := some dwellTicks } else L

/-! ### The sender's turns (R105, R119) -/

/-- What waits for the SHUT of a telegram starts its reply timer: the attempt of that sequence number for a POLL, the
transfer for a SERVICE telegram (R85, R119). -/
def Line.startReplyTimer (L : Line) (t : Telegram) : Line :=
  let timer := some (ticksOfUs L.settings.replyTimeout)
  match t.kind with
  | .poll =>
    match L.exchange with
    | some x => if x.phase = .sending ∧ x.seq = t.seq then { L.setPhase .awaiting with replyTimer := timer } else L
    | none => L
  | .service =>
    match L.transfer with
    | some x => if x.progress = .sending ∧ x.seq = t.seq then { L.setProgress .awaiting with replyTimer := timer } else L
    | none => L

/-- SHUT of the telegram being sent has gone out: the tail follows (R105, R119). -/
def Line.shutSent (L : Line) : Line :=
  match L.sender with
  | .sending _ .tail => L
  | .sending t _ => { L with sender := .sending t .tail }.startReplyTimer t
  | _ => L

/-- The last tail FILL of a turn, or of an ABORT, has gone out (R93, R105, R106). -/
def Line.turnEnded (L : Line) : Line :=
  match L.sender with
  | .sending _ .tail => L.endTurn
  | .aborting => L.endTurn
  | _ => L

/-! ### The hunt's lock (R97, R99) -/

/-- The hunt examines bits on a line in ACQUIRE; a run that reaches 8 gives lock, and the line moves to AWAIT_BEACON (R97,
R99). While an ABORT or a tail is still going out, the receiver takes nothing and no bit is examined (R93). -/
def Work.huntBits (w : Work) (l : LineNo) (bits : List Bool) : Work :=
  let L := w.line l
  if L.state = .acquire ∧ L.lock = .acquire ∧ L.driving = false then
    match L.hunt bits with
    | (L1, none) => w.put (w.st.setLine l L1)
    | (L1, some found) => w.putLine l { L1.takeLock found.1 found.2 with state := .awaitBeacon }
  else w

/-- The silence count of a locked line reaches 2048 (R100). -/
def Work.silenceReached (w : Work) (l : LineNo) : Work :=
  if (w.line l).lock = .locked then w.lockLost l else w

/-! ### Symbols (R101 to R105) -/

/-- A telegram closed by SHUT on these bytes: its length and its check word are tested, and it is delivered intact or
discarded as bad (R104). -/
def Work.telegramBytes (w : Work) (l : LineNo) (bytes : List Byte) : Work :=
  let header := byteAt bytes 0
  let seq : Nibble := header.extractLsb' 0 4
  let cut := splitCheck bytes
  let inner := cut.1.drop 1
  match (header.extractLsb' 4 4).toNat with
  | 2 =>
    if bytes.length ≠ (w.line l).settings.replyLength then w.discardTelegram l .badLength
    else if checkAccepts cut.1 cut.2 then w.takeReply l seq inner
    else w.discardTelegram l .badCheck
  | 4 =>
    if bytes.length < 3 ∨ 27 < bytes.length then w.discardTelegram l .badLength
    else if checkAccepts cut.1 cut.2 then w.takeServiceReply l seq inner
    else w.discardTelegram l .badCheck
  | 5 =>
    if bytes.length ≠ 9 then w.discardTelegram l .badLength
    else
      w.takeBeacon l seq (wordOf (byteAt bytes 1) (byteAt bytes 2)) (wordOf (byteAt bytes 3) (byteAt bytes 4))
        (wordOf (byteAt bytes 5) (byteAt bytes 6)) (wordOf (byteAt bytes 7) (byteAt bytes 8))
  | _ => w.discardTelegram l .badKind

/-- SHUT closes the telegram of these nibbles (R104). -/
def Work.telegramShut (w : Work) (l : LineNo) (nibbles : List Nibble) : Work :=
  if nibbles = [] ∨ nibbles.length % 2 = 1 then w.discardTelegram l .badLength
  else w.telegramBytes l (bytesOfNibbles nibbles)

/-- A data symbol inside a telegram is taken, or shows it bad: a kind no station sends, or an overrun (R102, R103). A first symbol
that names a SERVICE REPLY shows it to be the reply the line has abandoned, and the receiver is OUTSIDE (R89, R101). -/
def Work.dataSymbol (w : Work) (l : LineNo) (nibbles : List Nibble) (n : Nibble) : Work :=
  let L := w.line l
  let taken := nibbles ++ [n]
  if L.receiver = .abandoning ∧ n = 4 then w.telegramEnds l id
  else
    match expectedLength L.settings (taken.headD 0) with
    | none => w.discardTelegram l .badKind
    | some e =>
      if 2 * e + 2 ≤ taken.length then w.discardTelegram l .overrun
      else w.put (w.st.setLine l { L with receiver := .inside taken })

/-- FILL outside a telegram clears the silence count (R101). -/
def Work.fillSymbol (w : Work) (l : LineNo) : Work :=
  w.put (w.st.setLine l { w.line l with silence := 0 })

/-- One symbol, by the receiver's state (R101 to R104). The silence count moves after the symbol is handled (DESIGN CHOICE, log
entry 18). Where that symbol ends a telegram, a beacon among them, and the count then reaches 2048, the telegram's work and the loss
of lock are one event, with one notice for the line and one for each point: R145 calls the lock loss another event, and no rule says
whether one symbol time makes one event or two (DESIGN CHOICE, log entry 45). -/
def Work.symbol (w : Work) (l : LineNo) (sym : Symbol) : Work :=
  match (w.line l).receiver.taken, sym with
  | none, .fill => w.fillSymbol l
  | none, .open => (w.takeOpen l).noFill l
  | none, _ => w.noFill l
  | some _, .fill => w.discardTelegram l .fillInside
  | some _, .open => (w.takeOpen l).noFill l
  | some _, .abort => (w.discardTelegram l .abortInside).noFill l
  | some _, .invalid => (w.discardTelegram l .invalidCode).noFill l
  | some nibbles, .shut => (w.telegramShut l nibbles).noFill l
  | some nibbles, .data n => (w.dataSymbol l nibbles n).noFill l

/-- One symbol time of a locked line: in the part's own turn the receiver takes nothing and the silence count advances, else
the code on the pair is taken under the detected polarity (R93, R99 to R101). -/
def Work.symbolTime (w : Work) (l : LineNo) (code : Code5) : Work :=
  let L := w.line l
  if L.lock = .locked then
    if L.driving then (w.put (w.st.setLine l L.turnSymbol)).noFill l
    else w.symbol l (symbolOf (pairCode L.polarity code))
  else w

/-! ### The commands -/

/-- POLL_TIMER_EXPIRY (R116). -/
def execPollTimerExpiry (l : LineNo) (s : State) : Result := runCommand (fun s => s.pollExpired l) s

/-- SHUT_SENT (R105, R119). -/
def execShutSent (l : LineNo) (s : State) : Result := runCommand (fun s => s.setLine l (s.line l).shutSent) s

/-- TURN_END (R93, R105). -/
def execTurnEnd (l : LineNo) (s : State) : Result := runCommand (fun s => s.setLine l (s.line l).turnEnded) s

/-- REPLY_TIMER_EXPIRY (R119, R85). -/
def execReplyTimerExpiry (l : LineNo) (s : State) : Result := runCommand (fun s => s.event fun w => w.replyExpired l) s

/-- OPEN_RECEIVED (R102, R119). -/
def execOpenReceived (l : LineNo) (s : State) : Result := runCommand (fun s => s.event fun w => w.takeOpen l) s

/-- REPLY: an intact REPLY telegram, from its OPEN to its SHUT (R120). -/
def execReply (l : LineNo) (seq : Nibble) (body : List Byte) (s : State) : Result :=
  runCommand (fun s => s.event fun w => w.takeReply l seq body) s

/-- SERVICE_REPLY: an intact SERVICE REPLY telegram (R85). -/
def execServiceReply (l : LineNo) (seq : Nibble) (payload : List Byte) (s : State) : Result :=
  runCommand (fun s => s.event fun w => w.takeServiceReply l seq payload) s

/-- BAD_TELEGRAM: a telegram is discarded as bad (R103, R121). -/
def execBadTelegram (l : LineNo) (cause : BadCause) (s : State) : Result :=
  runCommand (fun s => s.event fun w => w.discardTelegram l cause) s

/-- BEACON: an intact beacon (R135 to R144). -/
def execBeacon (l : LineNo) (seq : Nibble) (w0 w1 w2 w3 : Word16) (s : State) : Result :=
  runCommand (fun s => s.event fun w => w.takeBeacon l seq w0 w1 w2 w3) s

/-- HOLD_TIMER_EXPIRY (R87). -/
def execHoldTimerExpiry (l : LineNo) (s : State) : Result := runCommand (fun s => s.event fun w => w.holdExpired l) s

/-- DWELL_TIMER_EXPIRY (R96). -/
def execDwellTimerExpiry (l : LineNo) (s : State) : Result := runCommand (fun s => s.setLine l (s.line l).dwellExpired) s

/-- LOCK: the bits the hunt examines, up to the one that gives lock (R97, R99). -/
def execLock (l : LineNo) (bits : List Bool) (s : State) : Result :=
  runCommand (fun s => s.event fun w => w.huntBits l bits) s

/-- LOCK_LOSS (R100). -/
def execLockLoss (l : LineNo) (s : State) : Result := runCommand (fun s => s.event fun w => w.silenceReached l) s

/-- SYMBOL_RECEIVED (R101). -/
def execSymbolReceived (l : LineNo) (code : Code5) (s : State) : Result :=
  runCommand (fun s => s.event fun w => w.symbolTime l code) s

end Sys2Proof.Machine
end

