-- ==== Sys2Proof/Machine/LineRequests.lean ====
section
/-! DEFINITION. The requests of the Drop Line Engines: READ LINE, SET LINE, RESTART LINE, SERVICE OPEN, SERVICE TRANSFER,
SERVICE CLOSE (R81, R84, R88, R112, R128, R130). -/

namespace Sys2Proof.Machine

/-- SET LINE: its three checks in order, then the settings replace the line's (R112, R113). -/
def setLineRequest (ps : List Byte) (s : State) : State × Answer :=
  if s.dev.mode ≠ .config then refuse s .mode
  else if ps.length ≠ 19 then refuse s .badLength
  else
    match lineOf? (byteAt ps 0), readSettings ps with
    | some l, some c => (s.setLine l { s.line l with settings := c }, .reply .ok (lineCode l :: c.bytes))
    | _, _ => refuse s .badValue

/-- READ LINE (R130). -/
def readLine (ps : List Byte) (s : State) : State × Answer :=
  if ps.length ≠ 1 then refuse s .badLength
  else
    match lineOf? (byteAt ps 0) with
    | none => refuse s .badValue
    | some l => (s, .reply .ok ((s.line l).bytes l))

/-- RESTART LINE: its four checks in order, then the restart (R128). -/
def restartLine (ps : List Byte) (s : State) : State × Answer :=
  if s.dev.mode = .config then refuse s .mode
  else if ps.length ≠ 1 then refuse s .badLength
  else
    match lineOf? (byteAt ps 0) with
    | none => refuse s .badValue
    | some l =>
      if (s.line l).state = .off then refuse s .lineState
      else (s.event fun w => w.restart l, .reply .ok [])

/-- SERVICE OPEN: its five checks in order, then the grant, or PENDING with an exchange in flight (R81). -/
def serviceOpen (ps : List Byte) (s : State) : State × Answer :=
  if s.dev.mode ≠ .run then refuse s .mode
  else if ps.length ≠ 1 then refuse s .badLength
  else
    match lineOf? (byteAt ps 0) with
    | none => refuse s .badValue
    | some l =>
      let L := s.line l
      if L.service ≠ .none then (s, .reply .ok [])
      else if L.state ≠ .operate then refuse s .lineState
      else if L.exchange.isSome then (s.setLine l { L with service := .pending }, .reply .pending [])
      else (s.event fun w => w.grant l, .reply .ok [])

/-- A taken transfer occupies the slot and hands its SERVICE telegram to the sender (R84, R85). -/
def State.takeTransfer (s : State) (l : LineNo) (tag : Byte) (payload : List Byte) : State :=
  let L := s.line l
  let r := L.nextTelegramOf .service payload
  let L1 := { r.1 with
    transfer := some ⟨tag, L.sequence, payload, .sending⟩, replyTimer := none, expiryHeld := false }
  s.setLine l (L1.handOver r.2)

/-- SERVICE TRANSFER: its five checks in order; a taken transfer's reply is deferred (R84). -/
def serviceTransfer (tag : Byte) (ps : List Byte) (s : State) : State × Answer :=
  if s.dev.mode ≠ .run then refuse s .mode
  else if ps.length < 2 ∨ 25 < ps.length then refuse s .badLength
  else
    match lineOf? (byteAt ps 0) with
    | none => refuse s .badValue
    | some l =>
      let L := s.line l
      if L.service ≠ .granted then refuse s .lineState
      else if L.transfer.isSome then refuse s .busy
      else (s.takeTransfer l tag (ps.drop 1), .later)

/-- SERVICE CLOSE (R88). -/
def serviceClose (ps : List Byte) (s : State) : State × Answer :=
  if ps.length ≠ 1 then refuse s .badLength
  else
    match lineOf? (byteAt ps 0) with
    | none => refuse s .badValue
    | some l => (s.event fun w => w.closeWindow l true, .reply .ok [])

/-- READ_LINE: request 0x31 (R130). -/
def execReadLine (tag : Byte) (ps : List Byte) (s : State) : Result := runRequest 0x31 tag (readLine ps) s

/-- SET_LINE: request 0x30 (R112). -/
def execSetLine (tag : Byte) (ps : List Byte) (s : State) : Result := runRequest 0x30 tag (setLineRequest ps) s

/-- RESTART_LINE: request 0x32 (R128). -/
def execRestartLine (tag : Byte) (ps : List Byte) (s : State) : Result := runRequest 0x32 tag (restartLine ps) s

/-- SERVICE_OPEN: request 0x33 (R81). -/
def execServiceOpen (tag : Byte) (ps : List Byte) (s : State) : Result := runRequest 0x33 tag (serviceOpen ps) s

/-- SERVICE_TRANSFER: request 0x34 (R84). -/
def execServiceTransfer (tag : Byte) (ps : List Byte) (s : State) : Result := runRequest 0x34 tag (serviceTransfer tag ps) s

/-- SERVICE_CLOSE: request 0x35 (R88). -/
def execServiceClose (tag : Byte) (ps : List Byte) (s : State) : Result := runRequest 0x35 tag (serviceClose ps) s

end Sys2Proof.Machine
end

