-- ==== Sys2Proof/Machine/ModeRequests.lean ====
section
/-! DEFINITION. The Mode Controller's requests and its silence expiry: START, STOP, ENTER SAFE, RESUME, SET MONITOR (R172 to
R179). -/

namespace Sys2Proof.Machine

/-! ### Shared work on the points -/

/-- The ids of the defined DO points, ascending. -/
def State.outputIds (s : State) : List PointId :=
  (s.points.filter fun e =>
    match e.2.body with
    | .dout _ => true
    | _ => false).map Prod.fst

/-- A DO point's record with its commanded value at the fail value; any other record as it is. -/
def Point.commandFail (r : Point) : Point :=
  match r.body with
  | .dout f => { r with body := .dout { f with commanded := f.fail } }
  | _ => r

/-- A DO point's record with its held value taken from its effective value (R60). -/
def Point.takeHeld (r : Point) : Point :=
  match r.body with
  | .dout f => { r with body := .dout { f with held := some f.effective } }
  | _ => r

/-- A DO point's record with its held value discarded (R60). -/
def Point.dropHeld (r : Point) : Point :=
  match r.body with
  | .dout f => { r with body := .dout { f with held := none } }
  | _ => r

/-- Applies a change to every defined point's record. -/
def State.mapPoints (s : State) (f : Point → Point) : State :=
  { s with points := s.points.map fun e => (e.1, f e.2) }

/-- Every DO point's effective value is recomputed in ascending id, each change reaching the terms that test it (R61, R62). -/
def Work.driveAll (w : Work) : Work :=
  w.st.outputIds.foldl Work.drive w

/-- Every DO point's effective value is recomputed in ascending id, with no term evaluated after it. -/
def Work.regateAll (w : Work) : Work :=
  w.st.outputIds.foldl Work.regate w

/-- One entry is blocked afresh, with its notice where its state or cause changes (R57). -/
def Work.blockOne (w : Work) (i : EntryIx) : Work :=
  match w.st.entry? i with
  | some e => w.storeEntry i e e.blockedAfresh
  | none => w

/-- Every defined entry is blocked afresh, in ascending index, an order that R57 and R175 do not give for their notices (R57; DESIGN
CHOICE, log entry 37). -/
def Work.blockAll (w : Work) : Work :=
  w.st.entryIds.foldl Work.blockOne w

/-- The device takes a record with a changed reported field, and raises its notice before anything else of the event (R147). -/
def Work.putDevice (w : Work) (d : Device) : Work :=
  (w.put (w.st.setDev d)).notice .device

/-- The pin sample timer takes a state. -/
def State.setPinTimer (s : State) (t : Option Nat) : State :=
  s.setPins { s.pins with timer := t }

/-! ### START (R173, R174) -/

/-- The period of the pin sample timer: 33 ticks (R22). -/
def samplePeriod : Nat := 33

/-- What a START refused CONFLICT reports: the item's kind and index, the reason and the term (R173, R184). -/
structure Conflict where
  kind : Byte
  index : Byte
  reason : Byte
  term : Byte
  deriving DecidableEq, Repr

/-- The bytes of a CONFLICT after its status. -/
def Conflict.bytes (c : Conflict) : List Byte :=
  [c.kind, c.index, c.reason, c.term]

/-- Two bodies are of the same kind. -/
def PointBody.sameKind (a b : PointBody) : Bool :=
  decide (a.code = b.code)

/-- A defined point with a lower id has the same station, kind and channel (DUPLICATE). -/
def State.duplicated (s : State) (p : PointId) (r : Point) : Bool :=
  s.points.any fun e => decide (e.1 < p) && decide (e.2.place = r.place) && e.2.body.sameKind r.body

/-- The id is a defined AI point. -/
def State.isAi (s : State) (p : PointId) : Bool :=
  match s.point? p with
  | some r => match r.body with
    | .ai _ => true
    | _ => false
  | none => false

/-- The id is a defined DO point. -/
def State.isOutput (s : State) (p : PointId) : Bool :=
  (s.effective? p).isSome

/-- The first failing check of a point with a place: CHANNEL or PIN_DIRECTION, then DUPLICATE. -/
def State.placeConflict (s : State) (p : PointId) (r : Point) (pl : Place) : Option Byte :=
  let first : Option Byte :=
    match lineOfStation pl.station, r.body with
    | some l, .di _ => if pl.channel < 8 * (s.line l).settings.diBytes then none else some 1
    | some l, .dout _ => if pl.channel < 8 * (s.line l).settings.doBytes then none else some 1
    | some l, .ai _ => if pl.channel < (s.line l).settings.aiChannels then none else some 1
    | none, .di _ => if s.pins.direction.getLsbD pl.channel then some 2 else none
    | none, .dout _ => if s.pins.direction.getLsbD pl.channel then none else some 2
    | _, _ => none
  first <|> if s.duplicated p r then some 3 else none

/-- The first failing check of a point (R173). -/
def State.pointConflict (s : State) (e : PointId × Point) : Option Conflict :=
  let reason : Option Byte :=
    match e.2.body, e.2.place with
    | .derived f, _ => if s.isAi f.sourceA && s.isAi f.sourceB then none else some 4
    | _, some pl => s.placeConflict e.1 e.2 pl
    | _, none => none
  reason.map fun r => ⟨3, idByte e.1, r, 0⟩

/-- The number of the first term that fails a check. -/
def firstTerm (terms : List Term) (bad : Term → Bool) : Option Nat :=
  terms.findIdx? bad

/-- A term's test does not suit its point's kind (R44). -/
def State.testMisfits (s : State) (t : Term) : Bool :=
  match s.point? t.point with
  | some r => !testSuits t.test r.body
  | none => true

/-- A term tests a DO that a defined entry targets (R70, R173). -/
def State.termTargeted (s : State) (t : Term) : Bool :=
  s.isOutput t.point && s.entries.any fun e => e.2.target = t.point

/-- The first failing check of an entry: its target, then every term's point, every term's test, every term's point again
as a target (R173; DEDUCED, log entry 14). -/
def State.entryConflict (s : State) (e : EntryIx × Entry) : Option Conflict :=
  let at_ : Byte → Nat → Conflict := fun reason t => ⟨2, byteOf e.1.val, reason, byteOf t⟩
  if !s.isOutput e.2.target then some (at_ 5 0)
  else
    ((firstTerm e.2.terms fun t => (s.point? t.point).isNone).map (at_ 6)) <|>
      ((firstTerm e.2.terms s.testMisfits).map (at_ 7)) <|> ((firstTerm e.2.terms s.termTargeted).map (at_ 8))

/-- The first offending item: points in ascending id, then entries in ascending index (R173). -/
def State.conflict (s : State) : Option Conflict :=
  s.points.findSome? s.pointConflict <|> s.entries.findSome? s.entryConflict

/-- One point enters UNSEEN at START, with its commanded value at the fail value (R18, R174 step 1). -/
def Work.startPoint (w : Work) (p : PointId) : Work :=
  match w.st.point? p with
  | some r => w.storePoint p r ((r.enter .unseen).commandFail)
  | none => w

/-- The ids of the defined derived points, ascending. -/
def State.derivedIds (s : State) : List PointId :=
  (s.points.filter fun e =>
    match e.2.body with
    | .derived _ => true
    | _ => false).map Prod.fst

/-- Each derived point is recomputed once (R42). -/
def Work.recomputeAll (w : Work) : Work :=
  (w.st.derivedIds.foldl Work.recompute (w, [])).1

/-- The work of START on points, entries, pins and lines, up to the mode (R174 steps 1 to 6). The points enter UNSEEN in ascending
id, for which R18, R42 and R174 give no order (DESIGN CHOICE, log entry 44). -/
def Work.startWork (w : Work) : Work :=
  let w1 := (w.st.pointIds.foldl Work.startPoint w).recomputeAll.blockAll
  let w2 := w1.put (w1.st.setPinTimer (some samplePeriod))
  let w3 := allLines.foldl Work.lineOn w2
  let w4 := (w3.put (w3.st.setDev { w3.st.dev with mode := .run })).regateAll
  w4.put w4.st.restartSilence

/-- START whose checks pass: its work, then the emptied queue, then the DEVICE notice (R159, R174). -/
def State.startDevice (s : State) : State :=
  ((s.event Work.startWork).emptyQueue).event fun w => w.notice .device

/-- START (R173, R174). -/
def startRequest (ps : List Byte) (s : State) : State × Answer :=
  if ps ≠ [] then refuse s .badLength
  else if s.dev.mode ≠ .config then refuse s .mode
  else
    match s.conflict with
    | some c => (s, .reply .conflict c.bytes)
    | none => (s.startDevice, .reply .ok [])

/-! ### STOP (R175) -/

/-- The work of STOP (R175 steps 1 to 6). Step 6 evaluates no term: step 5 has decided where every entry ends. -/
def Work.stopWork (w : Work) : Work :=
  let w1 := w.putDevice { w.st.dev with mode := .config, silenceTimer := none }
  let w2 := (allLines.foldl Work.lineOff w1).emptyForces
  let w3 := w2.moveAll w2.st.remoteIds allToLost
  let w4 := (w3.put (w3.st.setPinTimer none)).blockAll
  (w4.put (w4.st.mapPoints Point.dropHeld)).regateAll

/-- STOP (R175). -/
def stopRequest (ps : List Byte) (s : State) : State × Answer :=
  if ps ≠ [] then refuse s .badLength
  else if s.dev.mode = .config then (s, .reply .ok [])
  else (s.event Work.stopWork, .reply .ok [])

/-! ### SAFE entry and RESUME (R176, R177, R179) -/

/-- The work of a SAFE entry (R176 steps 1 to 6). -/
def Work.safeWork (cause : SafeCause) (w : Work) : Work :=
  let w1 := w.putDevice { w.st.dev with mode := .safe, lastCause := cause, silenceTimer := none }
  let w2 := if w1.st.dev.safeAction = .hold then w1.put (w1.st.mapPoints Point.takeHeld) else w1
  let w3 := (allLines.foldl (fun v l => v.closeWindow l true) w2).emptyForces
  let w4 := if w3.st.dev.safeAction = .drop then w3.put (w3.st.mapPoints Point.commandFail) else w3
  w4.driveAll

/-- ENTER SAFE (R176). -/
def enterSafe (ps : List Byte) (s : State) : State × Answer :=
  if ps ≠ [] then refuse s .badLength
  else
    match s.dev.mode with
    | .config => refuse s .mode
    | .safe => (s, .reply .ok [])
    | .run => (s.event (Work.safeWork .request), .reply .ok [])

/-- The work of RESUME (R177). -/
def Work.resumeWork (w : Work) : Work :=
  let w1 := w.putDevice { w.st.dev with mode := .run }
  let w2 := (w1.put (w1.st.mapPoints Point.dropHeld)).driveAll
  w2.put w2.st.restartSilence

/-- RESUME (R177). -/
def resumeRequest (ps : List Byte) (s : State) : State × Answer :=
  if ps ≠ [] then refuse s .badLength
  else if s.dev.mode ≠ .safe then refuse s .mode
  else (s.event Work.resumeWork, .reply .ok [])

/-! ### SET MONITOR (R178) -/

/-- The silence limit and the safe action are stored, with the DEVICE notice where the action changes (R178). -/
def State.takeMonitor (s : State) (limit : Nat) (action : SafeAction) : State :=
  let d := { s.dev with silenceLimit := limit, safeAction := action }
  if s.dev.safeAction = action then s.setDev d else s.event fun w => w.putDevice d

/-- SET MONITOR (R178). -/
def setMonitor (ps : List Byte) (s : State) : State × Answer :=
  if s.dev.mode ≠ .config then refuse s .mode
  else if ps.length ≠ 3 then refuse s .badLength
  else
    match safeActionOf? (byteAt ps 2) with
    | none => refuse s .badValue
    | some action =>
      let limit := takenLimit (natAt ps 0)
      (s.takeMonitor limit action, .reply .ok (natBytes limit ++ [action.code]))

/-! ### The commands -/

/-- START: request 0x04 (R173). -/
def execStart (tag : Byte) (ps : List Byte) (s : State) : Result := runRequest 0x04 tag (startRequest ps) s

/-- STOP: request 0x05 (R175). -/
def execStop (tag : Byte) (ps : List Byte) (s : State) : Result := runRequest 0x05 tag (stopRequest ps) s

/-- ENTER_SAFE: request 0x06 (R176). -/
def execEnterSafe (tag : Byte) (ps : List Byte) (s : State) : Result := runRequest 0x06 tag (enterSafe ps) s

/-- RESUME: request 0x07 (R177). -/
def execResume (tag : Byte) (ps : List Byte) (s : State) : Result := runRequest 0x07 tag (resumeRequest ps) s

/-- SET_MONITOR: request 0x08 (R178). -/
def execSetMonitor (tag : Byte) (ps : List Byte) (s : State) : Result := runRequest 0x08 tag (setMonitor ps) s

/-- SILENCE_EXPIRY: the running silence monitor expires in RUN, and the part enters SAFE with cause SILENCE (R176, R179). -/
def execSilenceExpiry (s : State) : Result :=
  runCommand (fun s =>
    if s.dev.mode = .run ∧ s.dev.silenceTimer.isSome then s.event (Work.safeWork .silence) else s) s

end Sys2Proof.Machine
end

