-- ==== Sys2Proof/Machine/PinEvents.lean ====
section
/-! DEFINITION. The pin sample and the release timers' expiry (R22, R53). -/

namespace Sys2Proof.Machine

/-- The pin sample timer expires: the levels are taken, the timer runs again, and the TROLLEY points take their samples in
ascending id, each completely before the next (R22). -/
def Work.pinSample (w : Work) (levels : Word16) : Work :=
  let s := w.st
  if s.pins.timer.isSome then
    (s.stationIds .trolley).foldl (Work.samplePin s.pins.direction levels s.pinDrive)
      (w.put (s.setPins { s.pins with sampled := levels, timer := some samplePeriod }))
  else w

/-- A RELEASING entry's timer expires: the entry is PERMIT, its notice is raised, and its target is recomputed (R53). -/
def Work.releaseExpired (w : Work) (i : EntryIx) : Work :=
  match w.st.entry? i with
  | some e =>
    if e.state = .releasing ∧ e.timer.isSome then
      (w.storeEntry i e { e with state := .permit, timer := none }).drive e.target
    else w
  | none => w

/-- PIN_SAMPLE (R22). -/
def execPinSample (levels : Word16) (s : State) : Result := runCommand (fun s => s.event fun w => w.pinSample levels) s

/-- RELEASE_TIMER_EXPIRY (R53). -/
def execReleaseTimerExpiry (i : EntryIx) (s : State) : Result := runCommand (fun s => s.event fun w => w.releaseExpired i) s

end Sys2Proof.Machine
end

