-- ==== Sys2Proof/Machine/PointRequests.lean ====
section
/-! DEFINITION. The requests of the Point Table and of the local pins: DEFINE POINT, CLEAR POINT, READ POINTS, SET OUTPUTS,
SET PINS (R20, R24 to R27). -/

namespace Sys2Proof.Machine

/-- DEFINE POINT: its five checks in order, then the old record and its queue record or mark leave, and the new record stands
(R24). A TROLLEY pin follows, since its drive is a function of the state (R21). -/
def definePoint (ps : List Byte) (s : State) : State × Answer :=
  if s.dev.mode ≠ .config then refuse s .mode
  else if ps.length < 2 then refuse s .badLength
  else
    match kindOf? (byteAt ps 1) with
    | none => refuse s .badValue
    | some k =>
      if ps.length ≠ k.paramLength then refuse s .badLength
      else
        match readPoint k s.dev.tick ps with
        | none => refuse s .badValue
        | some r =>
          let p := idOf (byteAt ps 0)
          ((s.forgetKey (.point p)).setPoint p r, .reply .ok (definitionBytes ps r))

/-- Removes a point's record. -/
def State.erasePoint (s : State) (p : PointId) : State :=
  { s with points := tableErase p s.points }

/-- CLEAR POINT (R25). -/
def clearPoint (ps : List Byte) (s : State) : State × Answer :=
  if s.dev.mode ≠ .config then refuse s .mode
  else if ps.length ≠ 1 then refuse s .badLength
  else
    let p := idOf (byteAt ps 0)
    match s.point? p with
    | none => refuse s .noSuch
    | some _ => ((s.forgetKey (.point p)).erasePoint p, .reply .ok [])

/-- READ POINTS (R26). -/
def readPoints (ps : List Byte) (s : State) : State × Answer :=
  if ps.length ≠ 2 then refuse s .badLength
  else
    let first := (byteAt ps 0).toNat
    let count := (byteAt ps 1).toNat
    if count < 1 ∨ 16 < count ∨ 256 < first + count then refuse s .badValue
    else (s, .reply .ok ((idsFrom first count).flatMap s.pointEntry))

/-- A DO point's record with a commanded value. -/
def Point.command (r : Point) (v : Bool) : Point :=
  match r.body with
  | .dout f => { r with body := .dout { f with commanded := v } }
  | _ => r

/-- Writes one commanded value (R27). -/
def State.writeCommand (s : State) (pair : PointId × Byte) : State :=
  s.modifyPoint pair.1 fun r => r.command (decide (pair.2 = 1))

/-- SET OUTPUTS: the commanded values are written in the order carried, then each written point's effective value is
recomputed in that order (R27). -/
def setOutputs (ps : List Byte) (s : State) : State × Answer :=
  if s.dev.mode ≠ .run then refuse s .mode
  else if ps.length < 2 ∨ 32 < ps.length ∨ ps.length % 2 ≠ 0 then refuse s .badLength
  else
    let pairs := readPairs ps
    match pairs.findSome? s.pairFault with
    | some status => refuse s status
    | none =>
      ((pairs.foldl State.writeCommand s).event fun w => (pairs.map Prod.fst).foldl Work.drive w, .reply .ok [])

/-- SET PINS (R20). -/
def setLocalPins (ps : List Byte) (s : State) : State × Answer :=
  if s.dev.mode ≠ .config then refuse s .mode
  else if ps.length ≠ 4 then refuse s .badLength
  else
    let direction := wordOf (byteAt ps 0) (byteAt ps 1)
    let level := wordOf (byteAt ps 2) (byteAt ps 3)
    (s.setPins { s.pins with direction := direction, resetLevel := level },
      .reply .ok (wordBytes direction ++ wordBytes level))

/-- DEFINE_POINT: request 0x10 (R24). -/
def execDefinePoint (tag : Byte) (ps : List Byte) (s : State) : Result := runRequest 0x10 tag (definePoint ps) s

/-- CLEAR_POINT: request 0x11 (R25). -/
def execClearPoint (tag : Byte) (ps : List Byte) (s : State) : Result := runRequest 0x11 tag (clearPoint ps) s

/-- READ_POINTS: request 0x12 (R26). -/
def execReadPoints (tag : Byte) (ps : List Byte) (s : State) : Result := runRequest 0x12 tag (readPoints ps) s

/-- SET_OUTPUTS: request 0x13 (R27). -/
def execSetOutputs (tag : Byte) (ps : List Byte) (s : State) : Result := runRequest 0x13 tag (setOutputs ps) s

/-- SET_PINS: request 0x16 (R20). -/
def execSetPins (tag : Byte) (ps : List Byte) (s : State) : Result := runRequest 0x16 tag (setLocalPins ps) s

end Sys2Proof.Machine
end

