-- ==== Sys2Proof/Machine/PortRequests.lean ====
section
/-! DEFINITION. The requests of the Festoon Port and the Change Queue: ECHO, READ DEVICE, RESET, SET REPORTING, READ CHANGES,
REPORT HOLD, and the answer to a code the part does not assign (R154 to R157, R163, R167 to R170). -/

namespace Sys2Proof.Machine

/-- ECHO (R168). -/
def echo (ps : List Byte) (s : State) : State × Answer :=
  if 197 < ps.length then refuse s .badLength else (s, .reply .ok ps)

/-- READ DEVICE (R169). -/
def readDevice (ps : List Byte) (s : State) : State × Answer :=
  if ps ≠ [] then refuse s .badLength else (s, .reply .ok s.deviceBytes)

/-- The RESET reply is queued where no deferred reply waits and the queue has room, and is held otherwise (R170). -/
def Port.holdReset (p : Port) (r : Reply) : Port :=
  if p.waiting.isEmpty && decide (p.replies.length < 4) then { p with replies := p.replies ++ [r] }
  else { p with heldReset := some r }

/-- The port closes to requests (R170). -/
def State.closePort (s : State) : State :=
  s.setPort { s.port with closed := true }

/-- RESET: the port closes, the transfers in flight end CLOSED line by line, then the RESET reply is queued or held (R170).
The command reset follows at the last byte of that reply (`execFrameTransmitted`). -/
def requestReset (tag : Byte) (ps : List Byte) (s : State) : State × Answer :=
  if ps ≠ [] then refuse s .badLength
  else
    let s1 := allLines.foldl State.closeTransfer s.closePort
    (s1.setPort (s1.port.holdReset ⟨0x83, tag, .ok, []⟩), .later)

/-- The keys of the LINE class. -/
def Key.isLine : Key → Bool
  | .line _ => true
  | _ => false

/-- The keys of the INTERLOCK class. -/
def Key.isInterlock : Key → Bool
  | .interlock _ => true
  | _ => false

/-- The keys of the DEVICE class. -/
def Key.isDevice : Key → Bool
  | .device => true
  | _ => false

/-- A class goes from on to off: its pending marks are cleared, then its records leave in queue order, each with its
admission (R155). -/
def State.disableClass (s : State) (ofClass : Key → Bool) : State :=
  let keys := (allLines.map Key.line ++ s.entryIds.map Key.interlock ++ [Key.device]).filter ofClass
  let s1 := keys.foldl (fun t k => t.setPending k Pending.clear) s
  ((s1.queue.map Record.key).filter ofClass).foldl State.departKey s1

/-- The class is handled where it goes from on to off (R155). -/
def State.switchClass (s : State) (was now : Bool) (ofClass : Key → Bool) : State :=
  if was && !now then s.disableClass ofClass else s

/-- The four enables take their values, and the classes turned off are handled in the order LINE, INTERLOCK, DEVICE (R154,
R155). With more than one turned off, a record admitted in one class's pass leaves in the pass of its own class: R155 has each
class handled completely, while R152 says that no admitted record leaves in its event (DESIGN CHOICE, log entry 39). -/
def State.takeReporting (s : State) (report : Bool) (c : Classes) : State :=
  let s1 := { s.setPort { s.port with reportEnable := report } with classes := c }
  ((s1.switchClass s.classes.line c.line Key.isLine).switchClass s.classes.interlock c.interlock Key.isInterlock).switchClass
    s.classes.device c.device Key.isDevice

/-- SET REPORTING (R154). -/
def setReporting (ps : List Byte) (s : State) : State × Answer :=
  if ps.length ≠ 4 then refuse s .badLength
  else
    match flagOf? (byteAt ps 0), flagOf? (byteAt ps 1), flagOf? (byteAt ps 2), flagOf? (byteAt ps 3) with
    | some report, some line, some interlock, some device =>
      (s.takeReporting report ⟨line, interlock, device⟩,
        .reply .ok [flagByte report, flagByte line, flagByte interlock, flagByte device])
    | _, _, _, _ => refuse s .badValue

/-- READ CHANGES (R157). -/
def readChanges (ps : List Byte) (s : State) : State × Answer :=
  if ps ≠ [] then refuse s .badLength else (s.drainHead, .reply .ok (recordsBytes s.headRecords))

/-- The report hold timer a time loads: stopped by 0 (R167). -/
def holdTicks (ms : Nat) : Option Nat :=
  if ms = 0 then none else some (ticksOfMs ms)

/-- REPORT HOLD (R167). -/
def reportHold (ps : List Byte) (s : State) : State × Answer :=
  if ps.length ≠ 2 then refuse s .badLength
  else
    let ms := natAt ps 0
    (s.setPort { s.port with reportHold := holdTicks ms }, .reply .ok (natBytes ms))

/-- A code the part does not assign does no work and is answered UNKNOWN (R163). -/
def unassigned (s : State) : State × Answer :=
  refuse s .unknown

/-- ECHO: request 0x01 (R168). -/
def execEcho (tag : Byte) (ps : List Byte) (s : State) : Result := runRequest 0x01 tag (echo ps) s

/-- READ_DEVICE: request 0x02 (R169). -/
def execReadDevice (tag : Byte) (ps : List Byte) (s : State) : Result := runRequest 0x02 tag (readDevice ps) s

/-- RESET: request 0x03 (R170). -/
def execReset (tag : Byte) (ps : List Byte) (s : State) : Result := runRequest 0x03 tag (requestReset tag ps) s

/-- SET_REPORTING: request 0x40 (R154). -/
def execSetReporting (tag : Byte) (ps : List Byte) (s : State) : Result := runRequest 0x40 tag (setReporting ps) s

/-- READ_CHANGES: request 0x41 (R157). -/
def execReadChanges (tag : Byte) (ps : List Byte) (s : State) : Result := runRequest 0x41 tag (readChanges ps) s

/-- REPORT_HOLD: request 0x42 (R167). -/
def execReportHold (tag : Byte) (ps : List Byte) (s : State) : Result := runRequest 0x42 tag (reportHold ps) s

/-- UNKNOWN: a code the part does not assign (R163). -/
def execUnknown (code tag : Byte) (_ps : List Byte) (s : State) : Result := runRequest code tag unassigned s

end Sys2Proof.Machine
end

