-- ==== Sys2Proof/Machine/Resets.lean ====
section
/-! DEFINITION. The three resets and the release of the reset input (R19, R91, R92, R131, R159, R171, R172, R181). -/

namespace Sys2Proof.Machine

/-- The pins after a pin reset or a command reset: directions and reset levels kept, the sampled level 0, the timer stopped
(R19, R22). -/
def Pins.keepSettings (p : Pins) : Pins :=
  ⟨p.direction, p.resetLevel, 0, none⟩

/-- What a pin reset or a command reset has a line put on its pair: the cut of the telegram being sent comes first, and the line
then takes its reset values (R92, R106, R107). The codes are an output of the event; the state after it has the sender IDLE
(DEDUCED, log entry 29). A power-on reset releases the pair at once. -/
def State.resetCodes (s : State) (l : LineNo) : List Code5 :=
  (s.line l).cutCodes

/-- The bits of these codes (R95). -/
def State.resetBits (s : State) (l : LineNo) : List Bool :=
  (s.line l).cutBits

/-- Every block at its values after a reset, with the given Mode Controller and pins; the waiting commands stay. -/
def State.resetTo (s : State) (d : Device) (p : Pins) : State :=
  { State.reset with dev := d, pins := p, pending := s.pending }

/-- The command reset (R181): the straps and the pin settings are kept. -/
def State.commandReset (s : State) : State :=
  s.resetTo (Device.reset s.dev.rateStrap s.dev.parityStrap) s.pins.keepSettings

/-- The pin reset: the part is held in reset until the input is released; its straps are sampled only then (R181). -/
def State.pinReset (s : State) : State :=
  s.resetTo { Device.reset s.dev.rateStrap s.dev.parityStrap with inReset := true } s.pins.keepSettings

/-- The power-on reset, with the straps sampled and the reset input not driven (R181; DESIGN CHOICE, log entry 10). -/
def State.powerOnReset (s : State) (rate : Fin 8) (parity : Fin 4) : State :=
  s.resetTo (Device.reset rate parity) Pins.reset

/-- The release of the reset input: the straps are sampled and the tick counter starts from 0 (R181). -/
def State.releaseReset (s : State) (rate : Fin 8) (parity : Fin 4) : State :=
  s.setDev { s.dev with rateStrap := rate, parityStrap := parity, tick := 0, inReset := false }

/-- COMMAND_RESET: the command reset takes effect (R181). In a run it is part of the RESET reply's last byte
(`execFrameTransmitted`); as a command of its own it is that reset alone. -/
def execCommandReset (s : State) : Result := runCommand State.commandReset s

/-- POWER_ON_RESET (R181). -/
def execPowerOnReset (rate : Fin 8) (parity : Fin 4) (s : State) : Result := .next (s.powerOnReset rate parity)

/-- PIN_RESET (R181). -/
def execPinReset (s : State) : Result := .next s.pinReset

/-- PIN_RESET_RELEASE: nothing happens where the part is not held in reset (R181). -/
def execPinResetRelease (rate : Fin 8) (parity : Fin 4) (s : State) : Result :=
  if s.dev.inReset then .next (s.releaseReset rate parity) else .next s

end Sys2Proof.Machine
end

