-- ==== Sys2Proof/Machine/PortEvents.lean ====
section
/-! DEFINITION. The events of the Festoon Port: characters and frames received, the transmitter's frames, the report hold's
expiry (R160 to R167, R170). -/

namespace Sys2Proof.Machine

/-! ### The receive framer (R160 to R163) -/

/-- The owner of a request by its code; a code not assigned has none and is answered UNKNOWN (R163). -/
def ownerOf (code tag : Byte) (ps : List Byte) : State → State × Answer :=
  match code.toNat with
  | 0x01 => echo ps
  | 0x02 => readDevice ps
  | 0x03 => requestReset tag ps
  | 0x04 => startRequest ps
  | 0x05 => stopRequest ps
  | 0x06 => enterSafe ps
  | 0x07 => resumeRequest ps
  | 0x08 => setMonitor ps
  | 0x10 => definePoint ps
  | 0x11 => clearPoint ps
  | 0x12 => readPoints ps
  | 0x13 => setOutputs ps
  | 0x14 => force ps
  | 0x15 => release ps
  | 0x16 => setLocalPins ps
  | 0x20 => defineInterlock ps
  | 0x21 => clearInterlock ps
  | 0x22 => readInterlock ps
  | 0x23 => acknowledge ps
  | 0x30 => setLineRequest ps
  | 0x31 => readLine ps
  | 0x32 => restartLine ps
  | 0x33 => serviceOpen ps
  | 0x34 => serviceTransfer tag ps
  | 0x35 => serviceClose ps
  | 0x40 => setReporting ps
  | 0x41 => readChanges ps
  | 0x42 => reportHold ps
  | _ => unassigned

/-- A discard of a cause is counted (R162). -/
def Discards.add (d : Discards) : FrameFault → Discards
  | .framing => { d with framing := saturate 65535 d.framing }
  | .length => { d with length := saturate 65535 d.length }
  | .check => { d with check := saturate 65535 d.check }

/-- A frame is discarded: its cause is counted and the framer returns to HUNT (R162). -/
def State.discardFrame (s : State) (cause : FrameFault) : State :=
  s.setPort { s.port with framer := .hunt, discards := s.port.discards.add cause }

/-- The framer is inside a frame with these bytes taken, and the gap timing restarts. -/
def State.takeBytes (s : State) (bytes : List Byte) : State :=
  s.setPort { s.port with framer := .inside bytes 0 }

/-- The last check byte has been taken: a failing check word discards the frame, else the request is offered (R161 to
R163). `bytes` run from L through the check word. -/
def State.frameComplete (s : State) (bytes : List Byte) : State :=
  let cut := splitCheck bytes
  if checkAccepts cut.1 cut.2 then
    requestWork (byteAt bytes 1) (byteAt bytes 2) (ownerOf (byteAt bytes 1) (byteAt bytes 2) (cut.1.drop 3)) s
  else s.discardFrame .check

/-- A character inside a frame with `bytes` taken (R161, R162). -/
def State.frameCharacter (s : State) (bytes : List Byte) (value : Byte) : State :=
  match bytes with
  | [] => if value.toNat < 2 ∨ 200 < value.toNat then s.discardFrame .length else s.takeBytes [value]
  | l :: _ =>
    if bytes.length + 1 = l.toNat + 3 then s.frameComplete (bytes ++ [value]) else s.takeBytes (bytes ++ [value])

/-- One festoon character, by the framer's state (R160 to R162). A character with a framing or parity error is counted FRAMING alone,
also where its value would be an L byte out of range or end a failing check word (DESIGN CHOICE, log entry 38). -/
def State.character (s : State) (value : Byte) (parityBit stopBit : Bool) : State :=
  let bad := characterBad (parityOf s.dev.parityStrap) value parityBit stopBit
  match s.port.framer with
  | .hunt => if value = 0xC5 ∧ bad = false then s.takeBytes [] else s
  | .inside bytes _ => if bad then s.discardFrame .framing else s.frameCharacter bytes value

/-- The idle bit times a gap may last inside a frame: 3 character times (R162). -/
def gapLimit (p : Parity) : Nat :=
  3 * characterBits p

/-- So many more bit times of idle line: past the limit inside a frame, the frame is discarded and the GAP count increases
(R162). In HUNT a gap has no effect. -/
def State.idleLine (s : State) (idleBits : Nat) : State :=
  match s.port.framer with
  | .hunt => s
  | .inside bytes gapBits =>
    if gapLimit (parityOf s.dev.parityStrap) < gapBits + idleBits then
      s.setPort { s.port with
        framer := .hunt, discards := { s.port.discards with gap := saturate 65535 s.port.discards.gap } }
    else s.setPort { s.port with framer := .inside bytes (gapBits + idleBits) }

/-- An intact frame is offered and turned away, where acceptance turns it away (R163). -/
def State.frameTurnedAway (s : State) : State :=
  if s.port.accepts then s else s.toHunt.turnAway

/-! ### The transmitter (R165 to R167, R170) -/

/-- The transmitter is IDLE. -/
def State.idleTransmitter (s : State) : State :=
  s.setPort { s.port with transmitter := .idle }

/-- The last byte of a frame has been sent: the RESET reply's brings the command reset, any other makes the transmitter IDLE
(R166, R170). -/
def State.frameTransmitted (s : State) : State :=
  match s.port.transmitter with
  | .idle => s
  | .reply r => if r.isReset then s.commandReset else s.idleTransmitter
  | .report _ => s.idleTransmitter

/-- The report hold timer expires (R167). -/
def State.holdExpired (s : State) : State :=
  s.setPort { s.port with reportHold := none }

/-! ### The commands -/

/-- FRAME_DISCARD: a frame is discarded at a character that shows a FRAMING, LENGTH or CHECK fault (R162). -/
def execFrameDiscard (cause : FrameFault) (s : State) : Result := runCommand (fun s => s.discardFrame cause) s

/-- GAP: idle line inside a frame (R162). -/
def execGap (idleBits : Nat) (s : State) : Result := runCommand (fun s => s.idleLine idleBits) s

/-- REPLY_TRANSMIT: the IDLE transmitter starts the head reply (R166). In a run the transmitter's choice makes it start
within the event that queued it, so this command finds nothing left to start (DEDUCED, log entry 15). -/
def execReplyTransmit (s : State) : Result := runCommand State.startReply s

/-- WAITING_REPLY_QUEUED: the first waiting reply is queued where the queue has room (R165, R170). -/
def execWaitingReplyQueued (s : State) : Result := runCommand State.serveWaiting s

/-- REPORT_FRAME: the IDLE transmitter starts a REPORT frame (R156, R166). -/
def execReportFrame (s : State) : Result := runCommand State.startReport s

/-- FRAME_TRANSMITTED: the last byte of a frame is sent and the transmitter chooses the next (R166). -/
def execFrameTransmitted (s : State) : Result := runCommand State.frameTransmitted s

/-- REPORT_HOLD_EXPIRY: the hold ends (R167). -/
def execReportHoldExpiry (s : State) : Result := runCommand State.holdExpired s

/-- CHARACTER_RECEIVED (R160 to R163). -/
def execCharacterReceived (value : Byte) (parityBit stopBit : Bool) (s : State) : Result :=
  runCommand (fun s => s.character value parityBit stopBit) s

/-- FRAME_TURNED_AWAY (R163). -/
def execFrameTurnedAway (s : State) : Result := runCommand State.frameTurnedAway s

end Sys2Proof.Machine
end

