-- ==== Sys2Proof/Machine/Dispatch.lean ====
section
/-! DEFINITION. `exec`: one arm for each command of the block. -/

namespace Sys2Proof.Machine

/-- The effect of a command on everything but the queue. -/
def exec (i : Instr) (s : State) : Host.Outcome State Fault Refusal :=
  match i with
  | .definePoint tag params => Sys2Proof.Machine.execDefinePoint tag params s
  | .clearPoint tag params => Sys2Proof.Machine.execClearPoint tag params s
  | .readPoints tag params => Sys2Proof.Machine.execReadPoints tag params s
  | .setOutputs tag params => Sys2Proof.Machine.execSetOutputs tag params s
  | .force tag params => Sys2Proof.Machine.execForce tag params s
  | .release tag params => Sys2Proof.Machine.execRelease tag params s
  | .setPins tag params => Sys2Proof.Machine.execSetPins tag params s
  | .defineInterlock tag params => Sys2Proof.Machine.execDefineInterlock tag params s
  | .clearInterlock tag params => Sys2Proof.Machine.execClearInterlock tag params s
  | .readInterlock tag params => Sys2Proof.Machine.execReadInterlock tag params s
  | .acknowledge tag params => Sys2Proof.Machine.execAcknowledge tag params s
  | .readLine tag params => Sys2Proof.Machine.execReadLine tag params s
  | .setLine tag params => Sys2Proof.Machine.execSetLine tag params s
  | .restartLine tag params => Sys2Proof.Machine.execRestartLine tag params s
  | .serviceOpen tag params => Sys2Proof.Machine.execServiceOpen tag params s
  | .serviceTransfer tag params => Sys2Proof.Machine.execServiceTransfer tag params s
  | .serviceClose tag params => Sys2Proof.Machine.execServiceClose tag params s
  | .setReporting tag params => Sys2Proof.Machine.execSetReporting tag params s
  | .readChanges tag params => Sys2Proof.Machine.execReadChanges tag params s
  | .reportHold tag params => Sys2Proof.Machine.execReportHold tag params s
  | .echo tag params => Sys2Proof.Machine.execEcho tag params s
  | .readDevice tag params => Sys2Proof.Machine.execReadDevice tag params s
  | .reset tag params => Sys2Proof.Machine.execReset tag params s
  | .start tag params => Sys2Proof.Machine.execStart tag params s
  | .stop tag params => Sys2Proof.Machine.execStop tag params s
  | .enterSafe tag params => Sys2Proof.Machine.execEnterSafe tag params s
  | .resume tag params => Sys2Proof.Machine.execResume tag params s
  | .setMonitor tag params => Sys2Proof.Machine.execSetMonitor tag params s
  | .unknown code tag params => Sys2Proof.Machine.execUnknown code tag params s
  | .frameDiscard cause => Sys2Proof.Machine.execFrameDiscard cause s
  | .gap idleBits => Sys2Proof.Machine.execGap idleBits s
  | .replyTransmit => Sys2Proof.Machine.execReplyTransmit s
  | .waitingReplyQueued => Sys2Proof.Machine.execWaitingReplyQueued s
  | .reportFrame => Sys2Proof.Machine.execReportFrame s
  | .frameTransmitted => Sys2Proof.Machine.execFrameTransmitted s
  | .reportHoldExpiry => Sys2Proof.Machine.execReportHoldExpiry s
  | .commandReset => Sys2Proof.Machine.execCommandReset s
  | .powerOnReset rate parity => Sys2Proof.Machine.execPowerOnReset rate parity s
  | .pinReset => Sys2Proof.Machine.execPinReset s
  | .pinResetRelease rate parity => Sys2Proof.Machine.execPinResetRelease rate parity s
  | .silenceExpiry => Sys2Proof.Machine.execSilenceExpiry s
  | .pinSample levels => Sys2Proof.Machine.execPinSample levels s
  | .releaseTimerExpiry entry => Sys2Proof.Machine.execReleaseTimerExpiry entry s
  | .pollTimerExpiry line => Sys2Proof.Machine.execPollTimerExpiry line s
  | .shutSent line => Sys2Proof.Machine.execShutSent line s
  | .turnEnd line => Sys2Proof.Machine.execTurnEnd line s
  | .replyTimerExpiry line => Sys2Proof.Machine.execReplyTimerExpiry line s
  | .openReceived line => Sys2Proof.Machine.execOpenReceived line s
  | .reply line seq body => Sys2Proof.Machine.execReply line seq body s
  | .serviceReply line seq payload => Sys2Proof.Machine.execServiceReply line seq payload s
  | .badTelegram line cause => Sys2Proof.Machine.execBadTelegram line cause s
  | .beacon line seq w0 w1 w2 w3 => Sys2Proof.Machine.execBeacon line seq w0 w1 w2 w3 s
  | .holdTimerExpiry line => Sys2Proof.Machine.execHoldTimerExpiry line s
  | .dwellTimerExpiry line => Sys2Proof.Machine.execDwellTimerExpiry line s
  | .lock line bits => Sys2Proof.Machine.execLock line bits s
  | .lockLoss line => Sys2Proof.Machine.execLockLoss line s
  | .characterReceived value parityBit stopBit => Sys2Proof.Machine.execCharacterReceived value parityBit stopBit s
  | .symbolReceived line code => Sys2Proof.Machine.execSymbolReceived line code s
  | .frameTurnedAway => Sys2Proof.Machine.execFrameTurnedAway s

end Sys2Proof.Machine
end

