-- ==== Sys2Proof/Machine/Timers.lean ====
section
/-! DEFINITION. What passes with no command waiting: the expiries of the timers that stand at their end, then one tick of the
time base (R180; DESIGN CHOICE, log entry 2). -/

namespace Sys2Proof.Machine

/-- A running timer loses one tick and stops at 0. -/
def countDown (t : Option Nat) : Option Nat :=
  t.map fun n => n - 1

/-- A line's timers lose one tick. -/
def Line.countDown (L : Line) : Line :=
  { L with
    dwell := Machine.countDown L.dwell
    pollTimer := Machine.countDown L.pollTimer
    replyTimer := Machine.countDown L.replyTimer
    holdTimer := Machine.countDown L.holdTimer }

/-- The tick counter and every timer after one tick (R180). -/
def State.countTick (s : State) : State :=
  { s with
    dev := { s.dev with tick := s.dev.tick + 1, silenceTimer := countDown s.dev.silenceTimer }
    pins := { s.pins with timer := countDown s.pins.timer }
    entries := s.entries.map fun e => (e.1, { e.2 with timer := countDown e.2.timer })
    lines := ⟨s.lines.line0.countDown, s.lines.line1.countDown, s.lines.line2.countDown⟩
    port := { s.port with reportHold := countDown s.port.reportHold } }

/-- A command for a timer that stands at its end. -/
def dueWhen (t : Option Nat) (c : Instr) : List Instr :=
  if t = some 0 then [c] else []

/-- The expiries of a line, in the order the model takes them. -/
def Line.due (L : Line) (l : LineNo) : List Instr :=
  dueWhen L.dwell (.dwellTimerExpiry l) ++ dueWhen L.holdTimer (.holdTimerExpiry l)
    ++ dueWhen L.replyTimer (.replyTimerExpiry l) ++ dueWhen L.pollTimer (.pollTimerExpiry l)

/-- The expiries of every timer that stands at its end. Expiries that fall on one tick may be taken in either order; the model
takes this one (DESIGN CHOICE, log entry 2). The pin sample carries levels from outside, so it comes as a command of its own. -/
def State.due (s : State) : List Instr :=
  dueWhen s.dev.silenceTimer .silenceExpiry ++ dueWhen s.port.reportHold .reportHoldExpiry
    ++ s.entries.flatMap (fun e => dueWhen e.2.timer (.releaseTimerExpiry e.1))
    ++ s.lines.line0.due .line0 ++ s.lines.line1.due .line1 ++ s.lines.line2.due .line2

/-- The expiry that is taken with no command waiting: the first of those due. It is looked for at each step, so a timer that was
stopped or loaded afresh since it reached its end does not expire (R53, R179). Held in reset, none is due (R181). -/
def State.nextExpiry (s : State) : Option Instr :=
  if s.dev.inReset then none else s.due.head?

/-- One tick with no command waiting and no expiry due. Held in reset, nothing counts (R181). -/
def State.tick (s : State) : State :=
  if s.dev.inReset then s else s.countTick

end Sys2Proof.Machine
end

