-- ==== Sys2Proof/Safety.lean ====
section
/-! DEFINITION. The terms claims are stated in: what a taken request and its reply leave, what a notice or a hand-on may touch
beside an event's own effect, and the invariants a safe run keeps. -/

namespace Sys2Proof.Machine

/-! ### Requests and replies -/

/-- A request is taken: the part is not held in reset and the port accepts the frame (R163). -/
def Takes (s : State) : Prop :=
  s.dev.inReset = false ∧ s.port.accepts = true

/-- The silence timer after a request is taken: loaded afresh in RUN while the limit is not 0 (R163 step 1, R179). -/
def silenceAfter (s : State) : Option Nat :=
  if s.dev.mode = .run ∧ s.dev.silenceLimit ≠ 0 then some (ticksOfMs s.dev.silenceLimit) else s.dev.silenceTimer

/-- The state in which a taken request finds its owner. -/
def taken (s : State) : State :=
  { s with dev := { s.dev with silenceTimer := silenceAfter s }, port := { s.port with framer := .hunt } }

/-- A request's reply stands at the tail of the reply queue (R163 step 3, R164). -/
def answered (s : State) (code tag : Byte) (status : Status) (data : List Byte) : State :=
  { s with port := { s.port with replies := s.port.replies ++ [⟨replyCode code, tag, status, data⟩] } }

/-- A request that does nothing but reply. -/
def onlyAnswers (s : State) (code tag : Byte) (status : Status) (data : List Byte) : Result :=
  .next (answered (taken s) code tag status data).choose

/-! ### What an event may touch beside its own effect -/

/-- Analog fields without what the Change Queue writes. -/
def Analog.quiet (a : Analog) : Analog :=
  { a with lastRecorded := 0 }

/-- A derived point's fields without what its recomputation writes. -/
def DerivedFields.quiet (f : DerivedFields) : DerivedFields :=
  { f with analog := { f.analog with value := 0, range := .none, lastRecorded := 0 } }

/-- A body without what notices, recomputations and gating write. -/
def PointBody.quiet : PointBody → PointBody
  | .di f => .di f
  | .dout f => .dout { f with effective := f.fail }
  | .ai f => .ai { f with analog := f.analog.quiet }
  | .derived f => .derived f.quiet

/-- The body of a SUM or DIFF. -/
def PointBody.isDerived : PointBody → Bool
  | .derived _ => true
  | _ => false

/-- The body of an AI. -/
def PointBody.isAi : PointBody → Bool
  | .ai _ => true
  | _ => false

/-- A point's record without its pending mark, timestamp and last recorded value, a DO's effective value, and a derived
point's quality and value. -/
def Point.quiet (r : Point) : Point :=
  { r with
    quality := if r.body.isDerived then .unseen else r.quality
    pending := Pending.clear
    lastChange := 0
    body := r.body.quiet }

/-- A term without its latch. -/
def Term.quiet (t : Term) : Term :=
  { t with latch := .latchUnknown }

/-- An entry's definition alone. -/
def Entry.quiet (e : Entry) : Entry :=
  { e with terms := e.terms.map Term.quiet, state := .blocked, cause := .none, timer := none, pending := Pending.clear }

/-- A line without its pending mark. -/
def Line.quiet (L : Line) : Line :=
  { L with pending := Pending.clear }

/-- The Mode Controller without the device's pending mark. -/
def Device.quiet (d : Device) : Device :=
  { d with pending := Pending.clear }

/-- A point's record without what notices alone write: its pending mark, timestamp and last recorded value. -/
def Point.unreported (r : Point) : Point :=
  { r.setRecorded 0 with pending := Pending.clear, lastChange := 0 }

/-- An entry without its pending mark. -/
def Entry.unreported (e : Entry) : Entry :=
  { e with pending := Pending.clear }

/-- `u` is `s` but for the Change Queue's records and pending marks, and what `fp` and `fe` leave out of points and entries.
Every other register, flag, counter and table is equal. -/
structure AgreesBy (fp : Point → Point) (fe : Entry → Entry) (s u : State) : Prop where
  dev : u.dev.quiet = s.dev.quiet
  pins : u.pins = s.pins
  points : ∀ p, (u.point? p).map fp = (s.point? p).map fp
  forces : u.forces = s.forces
  entries : ∀ i, (u.entry? i).map fe = (s.entry? i).map fe
  lines : ∀ l, (u.line l).quiet = (s.line l).quiet
  classes : u.classes = s.classes
  port : u.port = s.port
  pending : u.pending = s.pending

/-- `u` is `s` but for what notices and hand-ons touch: the Change Queue with its marks, timestamps and last recorded values,
the derived points' values and qualities, the entries' latches, states, causes and timers, and the effective values. -/
abbrev Agrees (s u : State) : Prop :=
  AgreesBy Point.quiet Entry.quiet s u

/-- `u` is `s` but for what the Change Queue writes: its records, marks, timestamps and last recorded values. -/
abbrev AgreesButQueue (s u : State) : Prop :=
  AgreesBy Point.unreported Entry.unreported s u

/-! ### Changes of a station's points -/

/-- A point's record after the quality change an event gives it, if any. -/
def Point.moved (next : Quality → Option Quality) (r : Point) : Point :=
  match next r.quality with
  | some q => r.enter q
  | none => r

/-- Every point of a station changed by a map, every other point as it is. -/
def State.mapStation (s : State) (st : Station) (f : Point → Point) : State :=
  s.mapPoints fun r => if r.onStation st then f r else r

/-! ### Invariants -/

/-- The tables are in strictly ascending key, every record of a point but a SUM or DIFF has a place, and those have none. -/
def TablesInv (s : State) : Prop :=
  tableSorted s.points = true ∧ tableSorted s.entries = true ∧ ∀ e ∈ s.points, e.2.place.isNone = e.2.body.isDerived

/-- The Change Queue (R149, R152, R155): at most 64 records, no two with one key, no marked entity with a record, a full queue
while any entity is marked, and every entity with a record or a mark one that may report. -/
def QueueInv (s : State) : Prop :=
  s.queue.length ≤ 64 ∧ (s.queue.map Record.key).Nodup ∧ (∀ k ∈ s.markedKeys, s.hasRecord k = false) ∧
    (s.markedKeys ≠ [] → s.queue.length = 64) ∧ (∀ r ∈ s.queue, s.mayReport r.key = true) ∧
    ∀ k ∈ s.markedKeys, s.mayReport k = true

/-- A waiting reply is a request's own. -/
def Waiter.isRequest : Waiter → Bool
  | .request _ => true
  | .line _ => false

/-- The port (R163, R165, R166, R86): at most 4 replies queued; a reply waits only while the queue is full; the waiting lines
are exactly those whose slot holds a finished reply, each once, with at most one held request reply; and the transmitter is
IDLE only while no claim stands. -/
def PortInv (s : State) : Prop :=
  s.port.replies.length ≤ 4 ∧ ((s.port.waiting ≠ [] ∨ s.port.heldReset.isSome) → s.port.replies.length = 4) ∧
    (∀ l ∈ allLines, (s.line l).finishedReply.isSome = s.port.waiting.contains (.line l)) ∧
    (s.port.waiting.filter fun x => !x.isRequest).Nodup ∧ s.port.waiting.countP Waiter.isRequest ≤ 1 ∧
    (s.port.transmitter = .idle → s.port.replies = [] ∧ s.reportClaim = false)

/-- A force value suits its point (R71, R74). -/
def ForceEntry.suits (f : ForceEntry) (r : Point) : Prop :=
  match r.analog? with
  | some a => a.lo ≤ f.value ∧ f.value ≤ a.hi
  | none => (f.value = 0 ∨ f.value = 1) ∧ f.range = .none

/-- The Force List (R71): at most 16 entries, no point twice, exactly the points whose forced flag is set, empty outside RUN,
every force value within its point's range (R74). -/
def ForceInv (s : State) : Prop :=
  s.forces.length ≤ 16 ∧ (s.forces.map ForceEntry.point).Nodup ∧ (s.dev.mode ≠ .run → s.forces = []) ∧
    (∀ e ∈ s.points, e.2.forced = s.forces.any fun f => f.point = e.1) ∧
    ∀ f ∈ s.forces, ∃ r, s.point? f.point = some r ∧ f.suits r

/-- One interlock entry (R45, R51, R52, R54): 1 to 8 terms, the cause its latches give, every latch TRUE in RELEASING and PERMIT,
some latch not TRUE in BLOCKED, LATCHED only while latching, and a release timer exactly in RELEASING. -/
def Entry.sound (e : Entry) : Prop :=
  1 ≤ e.terms.length ∧ e.terms.length ≤ 8 ∧ e.delay ≤ 2000 ∧ e.cause = causeOf e.terms ∧
    (e.state = .releasing ∨ e.state = .permit → allTrue e.terms = true) ∧ (e.state = .blocked → e.cause ≠ .none) ∧
    (e.state = .latched → e.latching = true) ∧ (e.timer.isSome = true ↔ e.state = .releasing)

/-- Every interlock entry is sound, and in CONFIG every entry is BLOCKED with every latch UNKNOWN (R43, R57). -/
def EntryInv (s : State) : Prop :=
  ∀ e ∈ s.entries, e.2.sound ∧
    (s.dev.mode = .config → e.2.state = .blocked ∧ ∀ t ∈ e.2.terms, t.latch = .latchUnknown)

/-- A line's settings lie in their ranges (R111, R113). -/
def LineSettings.inRange (c : LineSettings) : Prop :=
  500 ≤ c.pollPeriod ∧ c.pollPeriod ≤ 20000 ∧ 100 ≤ c.replyTimeout ∧ c.replyTimeout ≤ 5000 ∧ c.retryLimit ≤ 3 ∧
    1 ≤ c.staleLimit ∧ c.staleLimit ≤ 15 ∧ c.staleLimit ≤ c.lossLimit ∧ c.lossLimit ≤ 31 ∧ c.diBytes ≤ 8 ∧ c.doBytes ≤ 8 ∧
    c.aiChannels ≤ 8 ∧ 500 ≤ c.holdLimit ∧ c.holdLimit ≤ 30000

/-- A transfer whose reply is not finished yet. -/
def Transfer.inFlight (t : Transfer) : Bool :=
  match t.progress with
  | .finished _ => false
  | _ => true

/-- One drop line (R80, R85, R89, R93, R94, R97, R108, R114, R117, R119, R122, R124). -/
def Line.sound (mode : Mode) (L : Line) : Prop :=
  L.settings.inRange ∧ (mode = .config → L.state = .off) ∧ (L.state = .service ↔ L.service = .granted) ∧
    (L.pollTimer.isSome = true ↔ L.state = .operate) ∧ (L.exchange.isSome = true → L.state = .operate) ∧
    (L.service = .pending → L.exchange.isSome = true) ∧ (L.holdTimer.isSome = true → L.service = .granted) ∧
    (L.transfer.map Transfer.inFlight = some true → L.service = .granted) ∧
    (L.lock = .locked ↔ L.state ≠ .off ∧ L.state ≠ .acquire) ∧
    (L.state ≠ .operate ∧ L.state ≠ .service → L.failures = 0) ∧ L.failures < L.settings.lossLimit ∧
    L.accumulator < 1000000 ∧
    (L.replyTimer.isSome = true ∨ L.expiryHeld = true → L.attemptWaits = true ∨ L.transferWaits = true) ∧
    (∀ a : Fin 5, L.straightRuns[a] < 8 ∧ L.complementRuns[a] < 8) ∧ (L.driving = true → L.receiver = .outside) ∧
    (L.receiver = .abandoning → L.attemptWaits = false ∧ L.transferWaits = false)

/-- Every drop line is sound. -/
def LineInv (s : State) : Prop :=
  ∀ l ∈ allLines, (s.line l).sound s.dev.mode

/-- The effective value of a DO point by the five rows of R59, written out. -/
def outputRule (s : State) (p : PointId) (r : Point) (f : DoFields) : Bool :=
  if s.dev.mode = .config ∨ (s.dev.mode = .safe ∧ s.dev.safeAction = .drop) then f.fail
  else if ∃ e ∈ s.entries, e.2.target = p ∧ e.2.state ≠ .permit then f.fail
  else if s.dev.mode = .safe then f.held.getD f.fail
  else if r.forced then decide (s.presented p r = 1)
  else f.commanded

/-- Every DO point's effective value is the one R59 gives. -/
def GateInv (s : State) : Prop :=
  ∀ e ∈ s.points,
    match e.2.body with
    | .dout f => f.effective = outputRule s e.1 e.2 f
    | _ => True

/-- A new value passes the deadband test against the last recorded one (R34). -/
abbrev Analog.movesTo (a : Analog) (v : Int) : Prop :=
  a.value ≠ v ∧ (a.deadband = 0 ∧ v ≠ a.lastRecorded ∨ 1 ≤ a.deadband ∧ a.deadband ≤ (v - a.lastRecorded).natAbs)

/-- Analog fields lie in their ranges (section 1.1, R32). -/
def Analog.inRange (a : Analog) : Prop :=
  a.lo < a.hi ∧ a.deadband ≤ 1000 ∧ a.lo ≤ a.value ∧ a.value ≤ a.hi

/-- The fields of a kind lie in their ranges (section 1.1). -/
def PointBody.inRange : PointBody → Prop
  | .di f => 1 ≤ f.depth ∧ f.depth ≤ 15 ∧ f.run ≤ f.depth ∧ (f.candidate = none → f.run = 0)
  | .dout f => f.mismatch ≤ 2
  | .ai f => f.zero ≤ 4095 ∧ 1 ≤ f.settle ∧ f.settle ≤ 15 ∧ f.validRun ≤ f.settle ∧ f.analog.inRange
  | .derived f => f.analog.inRange

/-- One point (section 1.1, R4, R5, R24): fields in range; a point with a place is GOOD only while confirmed, and UNSEEN,
SETTLING, BAD and LOST only while not; an AI lies on a drop station. -/
def Point.sound (r : Point) : Prop :=
  r.body.inRange ∧ (r.body.isDerived = false →
    (r.quality = .good → r.confirmed = true) ∧
    (r.quality = .unseen ∨ r.quality = .settling ∨ r.quality = .bad ∨ r.quality = .lost → r.confirmed = false)) ∧
    (r.body.isAi = true → r.onStation .trolley = false)

/-- Every point is sound. -/
def PointInv (s : State) : Prop :=
  ∀ e ∈ s.points, e.2.sound

/-- A point id is usable: defined, and GOOD or forced (R3). -/
def State.usable (s : State) (p : PointId) : Bool :=
  match s.point? p with
  | some r => r.usable
  | none => false

/-- A derived point stands as R38 and R39 compute it from two AI sources. -/
def State.derivedCurrent (s : State) (r : Point) (f : DerivedFields) : Prop :=
  s.isAi f.sourceA = true ∧ s.isAi f.sourceB = true ∧ (s.derive r f).quality = r.quality ∧
    (s.derive r f).ownValue = r.ownValue ∧ (s.derive r f).ownRange = r.ownRange

/-- Outside CONFIG (R46, R50, R39, R40): a latch is UNKNOWN exactly while its point is unusable, and every derived point
stands as its sources give it. -/
def LiveInv (s : State) : Prop :=
  s.dev.mode ≠ .config →
    (∀ e ∈ s.entries, ∀ t ∈ e.2.terms, t.latch = .latchUnknown ↔ s.usable t.point = false) ∧
    ∀ e ∈ s.points,
      match e.2.body with
      | .derived f => s.derivedCurrent e.2 f
      | _ => True

/-- The Mode Controller (R22, R60, R172, R178, R179): the pin sample timer runs outside CONFIG, the silence timer in RUN while
the limit is not 0, the limit is 0 or 50 to 5000, and DO points hold a held value in SAFE under HOLD alone. -/
def ModeInv (s : State) : Prop :=
  (s.pins.timer.isSome = true ↔ s.dev.mode ≠ .config) ∧
    (s.dev.silenceTimer.isSome = true ↔ s.dev.mode = .run ∧ s.dev.silenceLimit ≠ 0) ∧
    (s.dev.silenceLimit = 0 ∨ 50 ≤ s.dev.silenceLimit ∧ s.dev.silenceLimit ≤ 5000) ∧
    ∀ e ∈ s.points,
      match e.2.body with
      | .dout f => f.held.isSome = true ↔ s.dev.mode = .safe ∧ s.dev.safeAction = .hold
      | _ => True

/-- What every state of a safe run satisfies. -/
def Safe (s : State) : Prop :=
  TablesInv s ∧ QueueInv s ∧ PortInv s ∧ ForceInv s ∧ EntryInv s ∧ LineInv s ∧ GateInv s ∧ PointInv s ∧ LiveInv s ∧
    ModeInv s

/-! ### Terms of single statements -/

/-- The timer that an expiry row names stands at its end. -/
def timerEnded (s : State) : Instr → Prop
  | .silenceExpiry => s.dev.silenceTimer = some 0
  | .reportHoldExpiry => s.port.reportHold = some 0
  | .releaseTimerExpiry i => ∃ e ∈ s.entries, e.1 = i ∧ e.2.timer = some 0
  | .dwellTimerExpiry l => (s.line l).dwell = some 0
  | .holdTimerExpiry l => (s.line l).holdTimer = some 0
  | .replyTimerExpiry l => (s.line l).replyTimer = some 0
  | .pollTimerExpiry l => (s.line l).pollTimer = some 0
  | _ => False

/-- The rows whose command is a festoon frame: the 29 requests and the frame turned away. -/
def isFrame : Instr → Bool
  | .definePoint _ _ | .clearPoint _ _ | .readPoints _ _ | .setOutputs _ _ | .force _ _ | .release _ _ | .setPins _ _
  | .defineInterlock _ _ | .clearInterlock _ _ | .readInterlock _ _ | .acknowledge _ _ | .readLine _ _ | .setLine _ _
  | .restartLine _ _ | .serviceOpen _ _ | .serviceTransfer _ _ | .serviceClose _ _ | .setReporting _ _ | .readChanges _ _
  | .reportHold _ _ | .echo _ _ | .readDevice _ _ | .reset _ _ | .start _ _ | .stop _ _ | .enterSafe _ _ | .resume _ _
  | .setMonitor _ _ | .unknown _ _ _ | .frameTurnedAway => true
  | _ => false

/-- The rows that act while the reset input is held low. -/
def actsInReset : Instr → Bool
  | .powerOnReset _ _ | .pinReset | .pinResetRelease _ _ => true
  | _ => false

/-- Each DO point named by a pair takes the value of the last pair that names it (R27). -/
def State.commandedBy (s : State) (pairs : List (PointId × Bool)) : State :=
  { s with
    points := s.points.map fun e =>
      match (pairs.filter fun x => x.1 = e.1).getLast? with
      | some x => (e.1, e.2.command x.2)
      | none => e }

/-- No line has a transfer in flight. -/
def NoTransfer (s : State) : Prop :=
  ∀ l ∈ allLines, ∀ t, (s.line l).transfer = some t → t.inFlight = false

/-- The event's answer stands in `u`, and the transmitter then makes its choice (R166). -/
def endsIn (c : Instr) (s u : State) : Prop :=
  exec c s = .next u.choose

/-- A taken request is answered: `u` is the state its owner leaves, the reply follows, then the transmitter's choice. -/
def repliesWith (c : Instr) (s : State) (code tag : Byte) (status : Status) (data : List Byte) (u : State) : Prop :=
  exec c s = .next (answered u code tag status data).choose

/-- A taken request is answered after its own work may have handed deferred replies to the port: its reply is queued, or is
held where the queue is full (R165). -/
def repliesLast (c : Instr) (s : State) (code tag : Byte) (status : Status) (u : State) : Prop :=
  let r : Reply := ⟨code + 0x80, tag, status, []⟩
  exec c s = .next (u.setPort
    (if u.port.replies.length < 4 then { u.port with replies := u.port.replies ++ [r] }
      else { u.port with waiting := u.port.waiting ++ [.request r] })).choose

/-- The record a DEFINE POINT creates (R2). -/
def freshPoint (place : Option Place) (report : Bool) (tick : Tick) (body : PointBody) : Point :=
  ⟨place, report, .unseen, false, false, ⟨false, 0⟩, tick, body⟩

/-- The entity of a key, with its pending mark and count, stands in `u` as it stood in `s`. -/
def sameEntity (s u : State) : Key → Prop
  | .device => u.dev = s.dev
  | .line l => u.line l = s.line l
  | .interlock i => u.entry? i = s.entry? i
  | .point p => u.point? p = s.point? p

/-- `n` records have left the queue of `s` and `rest` are those that stay, in order. The marks of the keys in `gone` were cleared
first; each departure admitted the first entity still marked, with its state, a fold count equal to its pending count and the tick
of this event, and cleared its mark and count. An admitted point's last recorded value is the one its record carries (R35), and
nothing else changes, no last change timestamp among it (R152, R153, R155). -/
def departs (s u : State) (gone : Key → Bool) (rest : List Record) (n : Nat) : Prop :=
  let marks := s.markedKeys.filter fun k => !gone k
  AgreesButQueue s u ∧ ∃ admitted : List Record,
    u.queue = rest ++ admitted ∧ admitted.map Record.key = marks.take n ∧ u.markedKeys = marks.drop n ∧
    (∀ k, gone k = true ∨ k ∈ admitted.map Record.key → u.pendingOf k = ⟨false, 0⟩) ∧
    (∀ k, gone k = false → k ∉ admitted.map Record.key → sameEntity s u k) ∧
    (∀ p, (u.point? p).map Point.lastChange = (s.point? p).map Point.lastChange) ∧
    ∀ r ∈ admitted, s.payload r.key = some r.payload ∧ r.fold = (s.pendingOf r.key).count ∧ r.time = s.dev.tick ∧
      ∀ q f g v p x a, r.payload = .point q f g v → r.key = .point p → u.point? p = some x → x.analog? = some a →
        a.lastRecorded = v

/-- The marks of the keys in `gone` have been cleared and their records have left, the others staying in order (R153, R155). -/
def forgets (s u : State) (gone : Key → Bool) : Prop :=
  departs s u gone (s.queue.filter fun r => !gone r.key) (s.queue.filter fun r => gone r.key).length

/-- The event from `s` to `u` began with a notice of `k`. Where `k` may report, its record was folded in place, appended behind those
queued, or replaced by a mark in a full queue, and it then followed `k` to its final state within the event, with no further fold
(R148 to R151). -/
def noticed (s u : State) (k : Key) : Prop :=
  s.mayReport k = true → ∃ pl, u.payload k = some pl ∧
    (∀ (j : Nat) (r : Record), s.queue[j]? = some r → r.key = k → u.queue[j]? = some ⟨k, pl, min (r.fold + 1) 255, s.dev.tick⟩) ∧
    (s.hasRecord k = false → s.queue.length < 64 → u.queue[s.queue.length]? = some ⟨k, pl, 1, s.dev.tick⟩) ∧
    (s.hasRecord k = false → 64 ≤ s.queue.length → u.hasRecord k = false ∧
      u.pendingOf k = if (s.pendingOf k).marked then ⟨true, min ((s.pendingOf k).count + 1) 255⟩ else ⟨true, 1⟩)

/-- DEFINE POINT with these parameters defines the record `r` under `p`, is answered with `data`, removes the id's record and mark
from the queue with the admission that follows, and changes nothing else (R24, R153). -/
def definesAs (s : State) (tag : Byte) (p : PointId) (ps data : List Byte) (r : Point) : Prop :=
  ∃ u, repliesWith (.definePoint tag ps) s 0x10 tag .ok data u ∧ u.point? p = some r ∧ u.hasRecord (.point p) = false ∧
    AgreesButQueue ((taken s).setPoint p r) u ∧
    (QueueInv s → forgets ((taken s).setPoint p r) u fun k => k = .point p)

/-- The initial value of an analog point (R2). -/
def zeroWithin (lo hi : Int) : Int :=
  if lo ≤ 0 ∧ 0 ≤ hi then 0 else if 0 < lo then lo else hi

/-- The effective value of an id, where it is a DO point, is the one R59 gives. -/
def Gated (s : State) (p : PointId) : Prop :=
  ∀ r f, s.point? p = some r → r.body = .dout f → f.effective = outputRule s p r f

/-- A line that hunts from the first rate of its order (R96, R107). -/
def Line.hunting (L : Line) : Line :=
  { L with
    state := .acquire
    lock := .acquire
    huntRate := match L.settings.rate with | some r => r | none => .r2M
    dwell := if L.settings.rate = none then some 656 else none
    straightRuns := Vector.replicate 5 0
    complementRuns := Vector.replicate 5 0
    huntBits := []
    huntPos := 0
    silence := 0
    receiver := .outside }

/-- The replies that the closing of a line's window makes: CLOSED for a transfer in flight (R89). -/
def closedReplies (s : State) (l : LineNo) : List Reply :=
  match (s.line l).transfer with
  | some t => if t.inFlight then [⟨0xB4, t.tag, .closed, []⟩] else []
  | none => []

/-- Every reply the port holds or waits for, in the order of its queueing (R165). -/
def outbound (s : State) : List Reply :=
  s.port.replies ++ s.port.waiting.filterMap fun x =>
    match x with
    | .request r => some r
    | .line l => (s.line l).finishedReply

/-- `s` with the port and one line of `u`: what is compared beside a line event's own line and replies. -/
def State.besides (s u : State) (l : LineNo) : State :=
  (s.setPort u.port).setLine l (u.line l)

/-- `s` with the port and every line of `u`. -/
def State.besidesLines (s u : State) : State :=
  { s with port := u.port, lines := u.lines }

/-- The port of `u` is that of `s` but for its replies and what waits for room. -/
def portKept (s u : State) : Prop :=
  { u.port with replies := s.port.replies, waiting := s.port.waiting, heldReset := s.port.heldReset } = s.port

/-- A window opens on a line (R83). -/
def Line.granted (L : Line) : Line :=
  { L with service := .granted, state := .service, pollTimer := none, holdTimer := some (ticksOfMs L.settings.holdLimit) }

/-- The poll timer's first cycle with A = 0 (R114, R115). -/
def Line.polling (L : Line) : Line :=
  { L with
    pollTimer := some (L.settings.pollPeriod * 32768 / 1000000), accumulator := L.settings.pollPeriod * 32768 % 1000000 }

/-- The line after its exchange has ended good (R123) or failed (R124), with a pending window decided (R82). -/
def Line.exchangeEnded (L : Line) (failures : Nat) : Line :=
  let L1 := { L with exchange := none, replyTimer := none, expiryHeld := false, failures := failures }
  if failures = L.settings.lossLimit then
    { L1 with state := .awaitBeacon, pollTimer := none, failures := 0, service := .none }
  else if L.service = .pending then L1.granted
  else L1

/-- A point of the station when an exchange has ended with this failure count (R14, R15, R16). -/
def Point.exchangeEnded (L : Line) (failures : Nat) (r : Point) : Point :=
  if failures = L.settings.lossLimit then r.moved toLost
  else
    let r1 := if failures = L.settings.staleLimit then r.moved toStale else r
    if L.service = .pending then r1.moved toHeld else r1

/-- The DO image of a line's station, as R63 places it: byte by byte, eight channels in each. -/
def imageIs (s : State) (st : Station) (bytes : Nat) (image : List Byte) : Prop :=
  image.length = bytes ∧ ∀ k, k < 8 * bytes →
    (imageBit image k = true ↔ ∃ e ∈ s.points, ∃ f, e.2.place = some ⟨st, k⟩ ∧ e.2.body = .dout f ∧ f.effective = true)

/-- Each DO point of the station has its effective value recorded as sent (R11). -/
def Point.sent (r : Point) : Point :=
  match r.body with
  | .dout f => { r with body := .dout { f with lastSent := f.effective } }
  | _ => r

/-- An attempt of a line's exchange stands built on a line record: the next sequence number, the image, the sender (R118). -/
def attemptBuilt (s : State) (l : LineNo) (L : Line) (n : Nat) (image : List Byte) : State :=
  (s.mapStation (stationOfLine l) Point.sent).setLine l
    ({ L with
      sequence := L.sequence + 1, exchange := some ⟨n, L.sequence, .sending⟩, replyTimer := none, expiryHeld := false
      }.handOver ⟨.poll, L.sequence, image⟩)

/-- The command `c` ends the present attempt of line `l` without success, with `L` its line as the ending itself leaves it: a
retry is built at once, or the exchange has failed (R121, R124). `last` is what becomes of the line after that: a WAITING turn
begins where a telegram has ended (R94), nothing where the timer has expired. -/
def attemptFails (c : Instr) (s : State) (l : LineNo) (L : Line) (x : Exchange) (last : Line → Line) : Prop :=
  if x.attempt < L.settings.retryLimit + 1 then
    ∃ image, imageIs s (stationOfLine l) L.settings.doBytes image ∧
      endsIn c s ((attemptBuilt s l L (x.attempt + 1) image).setLine l
        (last ((attemptBuilt s l L (x.attempt + 1) image).line l)))
  else
    ∃ u, endsIn c s u ∧
      Agrees ((s.setLine l (last (L.exchangeEnded (L.failures + 1)))).mapStation (stationOfLine l)
        (Point.exchangeEnded L (L.failures + 1))) u

/-- An ended transfer's reply is handed to the port from a line record (R86, R165). -/
def State.handed (s : State) (l : LineNo) (L : Line) (t : Transfer) (status : Status) (data : List Byte) : State :=
  let r : Reply := ⟨0xB4, t.tag, status, data⟩
  if s.port.replies.length < 4 ∧ s.port.waiting = [] then
    (s.setLine l { L with transfer := none }).setPort { s.port with replies := s.port.replies ++ [r] }
  else
    (s.setLine l { L with transfer := some { t with progress := .finished r } }).setPort
      { s.port with waiting := s.port.waiting ++ [.line l] }

/-- A check of START that a defined point fails, by the code of its reason: 1 CHANNEL, 2 PIN_DIRECTION, 3 DUPLICATE, 4 SOURCE
(R173). -/
def pointFails (s : State) (p : PointId) (r : Point) (reason : Nat) : Prop :=
  match reason with
  | 1 => ∃ pl l, r.place = some pl ∧ lineOfStation pl.station = some l ∧
    match r.body with
    | .di _ => 8 * (s.line l).settings.diBytes ≤ pl.channel
    | .dout _ => 8 * (s.line l).settings.doBytes ≤ pl.channel
    | .ai _ => (s.line l).settings.aiChannels ≤ pl.channel
    | .derived _ => False
  | 2 => ∃ pl, r.place = some pl ∧ pl.station = .trolley ∧
    match r.body with
    | .di _ => s.pins.direction.getLsbD pl.channel = true
    | .dout _ => s.pins.direction.getLsbD pl.channel = false
    | _ => False
  | 3 => r.body.isDerived = false ∧ ∃ d ∈ s.points, d.1 < p ∧ d.2.place = r.place ∧ d.2.body.code = r.body.code
  | 4 =>
    match r.body with
    | .derived f => s.isAi f.sourceA = false ∨ s.isAi f.sourceB = false
    | _ => False
  | _ => False

/-- A check of START that a defined entry fails at a term, by the code of its reason: 5 TARGET, 6 TERM_POINT, 7 TERM_TEST,
8 TERM_TARGET (R44, R70, R173). -/
def entryFails (s : State) (e : Entry) (reason term : Nat) : Prop :=
  match reason with
  | 5 => s.isOutput e.target = false ∧ term = 0
  | 6 => ∃ t, e.terms[term]? = some t ∧ s.point? t.point = none
  | 7 => ∃ t, e.terms[term]? = some t ∧ ∀ r, s.point? t.point = some r → testSuits t.test r.body = false
  | 8 => ∃ t, e.terms[term]? = some t ∧ s.isOutput t.point = true ∧ ∃ d ∈ s.entries, d.2.target = t.point
  | _ => False

/-- The first failing check of START: points in ascending id before entries in ascending index, each item's checks in order of
reason, and one reason's terms in order (R173; the last is DEDUCED, log entry 14). -/
def startFault (s : State) (kind index reason term : Nat) : Prop :=
  (kind = 3 ∧ term = 0 ∧ ∃ e ∈ s.points, e.1.val = index ∧ pointFails s e.1 e.2 reason ∧
    (∀ n, n < reason → ¬ pointFails s e.1 e.2 n) ∧ ∀ d ∈ s.points, d.1 < e.1 → ∀ n, ¬ pointFails s d.1 d.2 n) ∨
  (kind = 2 ∧ (∀ d ∈ s.points, ∀ n, ¬ pointFails s d.1 d.2 n) ∧ ∃ e ∈ s.entries, e.1.val = index ∧
    entryFails s e.2 reason term ∧ (∀ n m, n < reason → ¬ entryFails s e.2 n m) ∧
    (∀ m, m < term → ¬ entryFails s e.2 reason m) ∧ ∀ d ∈ s.entries, d.1 < e.1 → ∀ n m, ¬ entryFails s d.2 n m)

/-- Every check of START passes (R173, R44). -/
def StartFits (s : State) : Prop :=
  (∀ e ∈ s.points, ∀ n, ¬ pointFails s e.1 e.2 n) ∧ ∀ e ∈ s.entries, ∀ n m, ¬ entryFails s e.2 n m

/-- The command of an intact request frame by its code (11.4, R163). -/
def requestOf (code tag : Byte) (ps : List Byte) : Instr :=
  match code.toNat with
  | 0x01 => .echo tag ps
  | 0x02 => .readDevice tag ps
  | 0x03 => .reset tag ps
  | 0x04 => .start tag ps
  | 0x05 => .stop tag ps
  | 0x06 => .enterSafe tag ps
  | 0x07 => .resume tag ps
  | 0x08 => .setMonitor tag ps
  | 0x10 => .definePoint tag ps
  | 0x11 => .clearPoint tag ps
  | 0x12 => .readPoints tag ps
  | 0x13 => .setOutputs tag ps
  | 0x14 => .force tag ps
  | 0x15 => .release tag ps
  | 0x16 => .setPins tag ps
  | 0x20 => .defineInterlock tag ps
  | 0x21 => .clearInterlock tag ps
  | 0x22 => .readInterlock tag ps
  | 0x23 => .acknowledge tag ps
  | 0x30 => .setLine tag ps
  | 0x31 => .readLine tag ps
  | 0x32 => .restartLine tag ps
  | 0x33 => .serviceOpen tag ps
  | 0x34 => .serviceTransfer tag ps
  | 0x35 => .serviceClose tag ps
  | 0x40 => .setReporting tag ps
  | 0x41 => .readChanges tag ps
  | 0x42 => .reportHold tag ps
  | _ => .unknown code tag ps

/-- Runs commands one after another, stopping where one gives no next state. -/
def runAll : List Instr → State → Result
  | [], s => .next s
  | c :: rest, s =>
    match exec c s with
    | .next t => runAll rest t
    | .fault r => .fault r
    | .refused r => .refused r

/-- The characters of bytes on the festoon, each with the strapped parity and a good stop bit (R160). -/
def charactersOf (p : Parity) (bytes : List Byte) : List Instr :=
  bytes.map fun b => .characterReceived b (parityBitOf p b) true

/-- The symbols of a station's telegram, as codes on the pair under the line's polarity (R99, 11.2). -/
def telegramSymbols (l : LineNo) (polarity : Option Polarity) (bytes : List Byte) : List Instr :=
  (Symbol.open :: bytes.flatMap byteSymbols ++ [Symbol.shut]).map fun x => .symbolReceived l (pairCode polarity (codeOf x))

/-- The nibbles of a telegram's bytes, the high one of each first (R95). -/
def nibblesOf (bytes : List Byte) : List Nibble :=
  bytes.flatMap fun b => [b.extractLsb' 4 4, b.extractLsb' 0 4]

/-- A station's telegram with a check word: header, body, check word (11.2). -/
def checkedTelegram (kind seq : Nibble) (body : List Byte) : List Byte :=
  let covered := (kind ++ seq : Byte) :: body
  covered ++ wordBytes (checkWord covered)

/-- What a cut leaves of a turn (R106). -/
def cutSender : Sender → Sender
  | .idle => .idle
  | .waiting _ => .idle
  | .sending _ (.leadIn _) => .idle
  | .sending _ .body => .aborting
  | .sending t .tail => .sending t .tail
  | .aborting => .aborting

/-- The kind of the telegram the sender holds or sends. -/
def Sender.kind : Sender → Option TelegramKind
  | .waiting t => some t.kind
  | .sending t _ => some t.kind
  | _ => none

/-- The sender when a telegram being received has ended: a WAITING turn begins (R94). -/
def Sender.turnBegun : Sender → Sender
  | .waiting t => .sending t (.leadIn 3)
  | x => x

/-- The command is an intact telegram on the line that is no accepted beacon, and `n` the beacon discard count it leaves: a REPLY
of the line's length, a SERVICE REPLY, or a beacon that fails its form (R104, R120, R135). -/
def discardable (l : LineNo) (L : Line) (c : Instr) (n : Nat) : Prop :=
  match c with
  | .reply k _ body => k = l ∧ body.length + 3 = L.settings.replyLength ∧ n = L.beaconDiscards
  | .serviceReply k _ payload => k = l ∧ payload.length ≤ 24 ∧ n = L.beaconDiscards
  | .beacon k seq w0 w1 w2 w3 =>
    k = l ∧ ¬ (seq = 0 ∧ w0 = w1 ∧ w1 = w2 ∧ w2 = w3) ∧ n = min (L.beaconDiscards + 1) 65535
  | _ => False

/-- A line after its transfer, if one is in flight, has ended CLOSED: its SERVICE telegram is cut short or dropped, the reply being
received is abandoned, the reply timer stops (R89, R106). With only an OPEN taken the first symbol will tell (log entry 36). -/
def Line.closing (L : Line) : Line :=
  match L.transfer with
  | none => L
  | some t =>
    match t.progress with
    | .finished _ => L
    | .awaiting => { L with replyTimer := none, expiryHeld := false }
    | .sending =>
      let own := L.sender.kind = some .service
      { L with
        sender := if own then cutSender L.sender else L.sender
        nextTelegram := if own then none else L.nextTelegram.filter fun x => x.kind ≠ .service
        replyTimer := none, expiryHeld := false }
    | .receiving =>
      { L with
        receiver := match L.receiver with
          | .inside [] => .abandoning
          | .inside (k :: ns) => if k = 4 then .outside else .inside (k :: ns)
          | x => x
        replyTimer := none, expiryHeld := false }

/-- The command is something the receiver of line `l` takes: an OPEN, or a telegram's end (R93, R102 to R104). -/
def received (l : LineNo) (c : Instr) : Prop :=
  match c with
  | .openReceived k => k = l
  | .reply k _ _ => k = l
  | .serviceReply k _ _ => k = l
  | .badTelegram k _ => k = l
  | .beacon k _ _ _ _ _ => k = l
  | _ => False

/-- A line after the discard of the telegram it was receiving (R103), uncounted where it is an abandoned reply (R89; DESIGN CHOICE,
log entry 36). -/
def Line.discards (L : Line) (cause : BadCause) : Line :=
  { L with
    receiver := if cause = .openInside then .inside [] else .outside
    silence := if cause = .fillInside then 0 else L.silence
    badTelegrams :=
      if L.receiver = .abandoning ∧ cause ≠ .badKind then L.badTelegrams else min (L.badTelegrams + 1) 65535 }

/-- The exchange of a line, with an attempt that waits for its reply taking a phase; one still SENDING stays (R117). -/
def Line.waitIn (L : Line) (ph : AttemptPhase) : Option Exchange :=
  L.exchange.map fun x => if x.phase = .sending then x else { x with phase := ph }

/-- The transfer of a line, with one that waits for its reply taking a progress (R80). -/
def Line.transferIn (L : Line) (pr : TransferProgress) : Option Transfer :=
  L.transfer.map fun t => if t.progress = .awaiting ∨ t.progress = .receiving then { t with progress := pr } else t

/-- The point is a DO. -/
def Point.isDo (r : Point) : Bool :=
  match r.body with
  | .dout _ => true
  | _ => false

/-- An entry after an evaluation that leaves it these terms, by the table of section 3.3 (R51, R52, R54, R55). -/
def Entry.evaluated (e : Entry) (terms : List Term) : Entry :=
  let e1 := { e with terms := terms, cause := causeOf terms }
  if e.state = .latched then e1
  else if ∀ t ∈ terms, t.latch = .latchTrue then
    if e.state ≠ .blocked then e1
    else if e.delay = 0 then { e1 with state := .permit, timer := none }
    else { e1 with state := .releasing, timer := some ((e.delay * 32768 + 999) / 1000) }
  else if e.state = .blocked then e1
  else { e1 with state := if e.latching then .latched else .blocked, timer := none }

/-- A point's record at START (R18): UNSEEN, its confirmed flag and qualification state cleared, a DO's command at its fail
value. -/
def Point.started (r : Point) : Point :=
  { r with
    quality := .unseen
    confirmed := false
    body := match r.body with
      | .di f => .di { f with candidate := none, run := 0 }
      | .dout f => .dout { f with commanded := f.fail, mismatch := 0 }
      | .ai f => .ai { f with validRun := 0 }
      | .derived f => .derived f }

/-- A line at START: an enabled one hunts, a disabled one stays as it is (R110). -/
def Line.started (L : Line) : Line :=
  if L.settings.enable then L.hunting else L

/-- The first waiting reply has taken a freed place of the reply queue, or with none waiting the held RESET reply, or nothing
waits (R165, R170). -/
def takesRoom (s u : State) : Prop :=
  (s.port.waiting = [] → s.port.heldReset = none → u = s) ∧
  (s.port.waiting = [] → ∀ q, s.port.heldReset = some q →
    u = s.setPort { s.port with heldReset := none, replies := s.port.replies ++ [q] }) ∧
  (∀ q rest, s.port.waiting = .request q :: rest →
    u = s.setPort { s.port with waiting := rest, replies := s.port.replies ++ [q] }) ∧
  ∀ l q rest, s.port.waiting = .line l :: rest → (s.line l).finishedReply = some q →
    u = (s.setLine l { s.line l with transfer := none }).setPort
      { s.port with waiting := rest, replies := s.port.replies ++ [q] }

/-- What a SAFE entry of this cause leaves of `s` (R176). -/
def safeEntered (s : State) (cause : SafeCause) (u : State) : Prop :=
  u.dev = { s.dev with mode := .safe, lastCause := cause, silenceTimer := none, pending := u.dev.pending } ∧
  u.pins = s.pins ∧ u.forces = [] ∧ u.classes = s.classes ∧ GateInv u ∧
  portKept s u ∧ outbound u = outbound s ++ allLines.flatMap (closedReplies s) ∧
  (∀ i, (u.entry? i).map Entry.quiet = (s.entry? i).map Entry.quiet) ∧
  (∀ l, let L := s.line l
    (L.service ≠ .granted → u.line l = { L with service := .none, transfer := (u.line l).transfer, pending := (u.line l).pending }) ∧
    (L.service = .granted → u.line l = { L.closing.polling with
      service := .none, state := .operate, holdTimer := none, transfer := (u.line l).transfer
      pending := (u.line l).pending })) ∧
  ∀ p r, s.point? p = some r → ∃ r', u.point? p = some r' ∧ r'.place = r.place ∧ r'.report = r.report ∧ r'.forced = false ∧
    (r.body.isDerived = false → r'.confirmed = r.confirmed ∧
      r'.quality = if r.quality = .held ∧ ∃ l ∈ allLines, (s.line l).service = .granted ∧ r.onStation (stationOfLine l) = true
        then .stale else r.quality) ∧
    ∀ f, r.body = .dout f → ∃ f', r'.body = .dout f' ∧ f'.fail = f.fail ∧
      (s.dev.safeAction = .drop → f'.commanded = f.fail ∧ f'.held = none) ∧
      (s.dev.safeAction = .hold → f'.commanded = f.commanded ∧ f'.held = some f.effective)

/-- What STOP leaves of `s` (R175). -/
def stopped (s u : State) : Prop :=
  u.dev = { s.dev with mode := .config, silenceTimer := none, pending := u.dev.pending } ∧
  u.pins = { s.pins with timer := none } ∧ u.forces = [] ∧ u.classes = s.classes ∧
  portKept s u ∧ outbound u = outbound s ++ allLines.flatMap (closedReplies s) ∧
  (∀ l, let L := s.line l; let M := u.line l
    M.state = .off ∧ M.lock = .acquire ∧ M.pollTimer = none ∧ M.exchange = none ∧ M.failures = 0 ∧ M.service = .none ∧
    M.holdTimer = none ∧ (L.state ≠ .off → M.sender = cutSender L.sender ∧ M.receiver = .outside ∧ M.dwell = none) ∧
    M.settings = L.settings ∧ M.sequence = L.sequence ∧ M.badTelegrams = L.badTelegrams ∧ M.timeouts = L.timeouts ∧
    M.slips = L.slips ∧ M.lockedRate = L.lockedRate ∧ M.polarity = L.polarity ∧ M.lastAttached = L.lastAttached ∧
    M.restartCount = L.restartCount ∧ M.lastBeacon = L.lastBeacon ∧ M.beaconDiscards = L.beaconDiscards) ∧
  (∀ i e, s.entry? i = some e → ∃ e', u.entry? i = some e' ∧ e'.quiet = e.quiet ∧ e'.state = .blocked ∧ e'.timer = none ∧
    e'.cause = .unusable 0 ∧ ∀ t ∈ e'.terms, t.latch = .latchUnknown) ∧
  ∀ p r, s.point? p = some r → ∃ r', u.point? p = some r' ∧ r'.place = r.place ∧ r'.report = r.report ∧ r'.forced = false ∧
    (r.onStation .cab = true ∨ r.onStation .sprA = true ∨ r.onStation .sprB = true →
      r'.quality = .lost ∧ r'.confirmed = false) ∧
    (r.onStation .trolley = true → r'.quality = r.quality ∧ r'.confirmed = r.confirmed) ∧
    (∀ f, r.body = .derived f → r'.quality = .lost ∧
      ∃ f', r'.body = .derived f' ∧ f'.quiet = f.quiet ∧ u.derivedCurrent r' f') ∧
    ∀ f, r.body = .dout f → ∃ f', r'.body = .dout f' ∧ f'.fail = f.fail ∧ f'.effective = f.fail ∧
      f'.commanded = f.commanded ∧ f'.held = none

end Sys2Proof.Machine
end

