-- ==== Sys2Proof/Certificates/Slice0/Obligations.lean ====
section
/-! DEFINITION. The statements of this row: what each command of the TQ340 does, and what every step keeps. -/

open Sys2Proof Sys2Proof.Machine

/-! ### The step and the resets -/

/-- The step runs the command at the front of the queue on the state with the queue's rest (the model's queue, not the
manual's: DESIGN CHOICE, log entry 2). -/
def Obligations.StepRunsTheFrontCommand : Prop :=
  ∀ (c : Instr) (rest : List Instr) (s : State),
    step { s with pending := c :: rest } = exec c { s with pending := rest }

/-- With no command waiting, the step takes the expiry of a timer that stands at its end; with none there it is one tick of the
time base (DESIGN CHOICE, log entry 2): the counter goes up by one and wraps, every running timer loses one tick and stays at 0 from
there, and nothing else changes. The pin sample timer is no such timer: at its end the ticks go on, it stays at 0, and no sample is
taken without a PIN_SAMPLE, which carries the levels from outside (DESIGN CHOICE, log entry 26). Held in reset, nothing counts and
nothing expires (R180, R181). -/
def Obligations.EmptyQueueIsOneTick : Prop :=
  ∀ s : State, s.pending = [] →
    (s.dev.inReset = true → step s = .next s) ∧
    (s.dev.inReset = false → (∃ c, timerEnded s c) → ∃ c, timerEnded s c ∧ step s = exec c s) ∧
    (s.dev.inReset = false → (¬ ∃ c, timerEnded s c) → ∃ t, step s = .next t ∧
      t.dev = { s.dev with tick := s.dev.tick + 1, silenceTimer := s.dev.silenceTimer.map (· - 1) } ∧
      t.pins = { s.pins with timer := s.pins.timer.map (· - 1) } ∧
      t.port = { s.port with reportHold := s.port.reportHold.map (· - 1) } ∧
      (∀ l, t.line l = { s.line l with
        dwell := (s.line l).dwell.map (· - 1), pollTimer := (s.line l).pollTimer.map (· - 1)
        replyTimer := (s.line l).replyTimer.map (· - 1), holdTimer := (s.line l).holdTimer.map (· - 1) }) ∧
      (∀ i, t.entry? i = (s.entry? i).map fun e => { e with timer := e.timer.map (· - 1) }) ∧
      t.points = s.points ∧ t.forces = s.forces ∧ t.queue = s.queue ∧ t.classes = s.classes ∧ t.pending = [])

/-- Every command answers a next state and leaves the commands that wait as they are: the block has no fault and no refusal
(log entry 30; the queue is the model's, log entry 8). -/
def Obligations.EveryCommandCompletes : Prop :=
  ∀ (c : Instr) (s : State), ∃ t, exec c s = .next t ∧ t.pending = s.pending

/-- What each reset leaves (R1, R19, R22, R43, R71, R92, R111, R131, R134, R147, R154, R171, R172, R180, R181): everything of
`State.reset` but the straps and the pin settings; and what acts while the reset input is held low. That the waiting commands
stay is the model's choice (log entry 8), and that a power-on reset ends a held pin reset is too (log entry 10). That the three
reset rows alone act while the input is held low, and that COMMAND_RESET acts in every other state, is DEDUCED (log entry 21);
that a release of the reset input outside a reset changes nothing is the model's choice (log entry 4). -/
def Obligations.ResetsLeave : Prop :=
  ∀ (s : State) (rate : Fin 8) (parity : Fin 4),
    exec (.powerOnReset rate parity) s = .next { State.reset with
      dev := { State.reset.dev with rateStrap := rate, parityStrap := parity }, pending := s.pending } ∧
    exec .pinReset s = .next { State.reset with
      dev := { State.reset.dev with rateStrap := s.dev.rateStrap, parityStrap := s.dev.parityStrap, inReset := true }
      pins := { s.pins with sampled := 0, timer := none }, pending := s.pending } ∧
    (s.dev.inReset = true →
      exec (.pinResetRelease rate parity) s = .next { s with
        dev := { s.dev with rateStrap := rate, parityStrap := parity, tick := 0, inReset := false } } ∧
      ∀ c, actsInReset c = false → exec c s = .next s) ∧
    (s.dev.inReset = false →
      exec (.pinResetRelease rate parity) s = .next s ∧
      exec .commandReset s = .next { State.reset with
        dev := { State.reset.dev with rateStrap := s.dev.rateStrap, parityStrap := s.dev.parityStrap }
        pins := { s.pins with sampled := 0, timer := none }, pending := s.pending })

/-- Every invariant of a safe run holds right after each of the three resets; a COMMAND_RESET while the reset input is held low is
none (R181; DEDUCED, log entry 21). -/
def Obligations.ResetIsSafe : Prop :=
  Safe State.reset ∧ ∀ (s t : State) (c : Instr) (rate : Fin 8) (parity : Fin 4),
    c ∈ [.powerOnReset rate parity, .pinReset] ∨ c = .commandReset ∧ s.dev.inReset = false → exec c s = .next t → Safe t

/-! ### What every step keeps -/

/-- No step breaks the order of the tables, nor gives a point a wrong place: a SUM or DIFF has none, every other point has
one. -/
def Obligations.StepKeepsTables : Prop :=
  ∀ s t, TablesInv s → step s = .next t → TablesInv t

/-- The Change Queue never holds more than 64 records and never two records with the same key, an entity with a pending mark has
no record in the queue, while marks remain the queue stays full, and records and marks are of entities that may report (R149,
R152, R155). Where one SET REPORTING turns several classes off, the last clause rests on the model's choice of log entry 39. -/
def Obligations.StepKeepsQueue : Prop :=
  ∀ s t, TablesInv s → QueueInv s → step s = .next t → QueueInv t

/-- The port: never more than 4 replies queued, a reply waits only for room, each line's deferred reply stands in its slot, and
an IDLE transmitter means that no claim stands (R163, R165, R166). -/
def Obligations.StepKeepsPort : Prop :=
  ∀ s t, PortInv s → step s = .next t → PortInv t

/-- Every line keeps its settings in range, its hunt runs below 8, its receiver OUTSIDE while the part drives, and its state, service
state, timers, exchange, lock and failure count in step, where the port's waiting lines are those that hold a finished reply (R80,
R93, R97, R108, R111, R114, R117, R122). -/
def Obligations.StepKeepsLines : Prop :=
  ∀ s t, PortInv s → LineInv s → step s = .next t → LineInv t

/-- The Force List never holds more than 16 entries or the same point twice, is empty outside RUN, agrees with the forced flags,
and holds only values that suit their points, where every analog point's limits are in order (R71, R74). -/
def Obligations.StepKeepsForces : Prop :=
  ∀ s t, TablesInv s → PointInv s → ForceInv s → step s = .next t → ForceInv t

/-- Every output follows the five rows of R59 after every step: no event leaves an effective value behind its inputs (R61). -/
def Obligations.StepKeepsGating : Prop :=
  ∀ s t, Safe s → step s = .next t → GateInv t

/-- Every invariant of a safe run is kept by every step. The Change Queue's part rests on the model's choice of log entry 39 where
one SET REPORTING turns several classes off. -/
def Obligations.StepKeepsSafe : Prop :=
  ∀ s t, Safe s → step s = .next t → Safe t

/-- The headline of the interlocks (R50, R54, R59): after every step, an output whose effective value differs from its fail
value stands in RUN, or in SAFE under HOLD; every entry that targets it is PERMIT; and every term of such an entry has its latch
TRUE and tests a usable point. -/
def Obligations.OutputsAreReleasedOnlyByPermits : Prop :=
  ∀ s t, Safe s → step s = .next t → ∀ p r f, t.point? p = some r → r.body = .dout f → f.effective ≠ f.fail →
    (t.dev.mode = .run ∨ t.dev.mode = .safe ∧ t.dev.safeAction = .hold) ∧
      ∀ e ∈ t.entries, e.2.target = p → e.2.state = .permit ∧
        ∀ tm ∈ e.2.terms, tm.latch = .latchTrue ∧ t.usable tm.point = true

/-! ### Requests in general (R162 to R164) -/

/-- An intact frame that finds 4 replies queued, or a RESET taken, is counted NO_ROOM_DISCARD and reaches no owner. That the
row stands for a whole frame, with the framer then in HUNT, is the model's choice (log entry 22). -/
def Obligations.FramesAreTurnedAway : Prop :=
  ∀ c s, isFrame c = true → s.dev.inReset = false → s.port.accepts = false →
    exec c s = .next ({ s with port := { s.port with
      framer := .hunt
      discards := { s.port.discards with noRoom := min (s.port.discards.noRoom + 1) 65535 } } }).choose

/-- Every request that checks the mode is refused MODE in the modes that do not take it, and changes nothing. -/
def Obligations.RequestsAreRefusedByMode : Prop :=
  ∀ (tag : Byte) (ps : List Byte) (s : State), Takes s →
    (s.dev.mode ≠ .config →
      ∀ x ∈ [(Instr.definePoint tag ps, (0x10 : Byte)), (.clearPoint tag ps, 0x11), (.setPins tag ps, 0x16),
        (.defineInterlock tag ps, 0x20), (.clearInterlock tag ps, 0x21), (.setLine tag ps, 0x30), (.setMonitor tag ps, 0x08),
        (.start tag [], 0x04)],
        exec x.1 s = onlyAnswers s x.2 tag .mode []) ∧
    (s.dev.mode ≠ .run →
      ∀ x ∈ [(Instr.setOutputs tag ps, (0x13 : Byte)), (.force tag ps, 0x14), (.release tag ps, 0x15),
        (.serviceOpen tag ps, 0x33), (.serviceTransfer tag ps, 0x34)],
        exec x.1 s = onlyAnswers s x.2 tag .mode []) ∧
    (s.dev.mode = .config →
      ∀ x ∈ [(Instr.acknowledge tag ps, (0x23 : Byte)), (.restartLine tag ps, 0x32), (.enterSafe tag [], 0x06)],
        exec x.1 s = onlyAnswers s x.2 tag .mode []) ∧
    (s.dev.mode ≠ .safe → exec (.resume tag []) s = onlyAnswers s 0x07 tag .mode [])

/-- Every request refuses parameters of another length than its own with BAD_LENGTH, and changes nothing. -/
def Obligations.RequestsAreRefusedByLength : Prop :=
  ∀ (tag : Byte) (ps : List Byte) (s : State), Takes s →
    (∀ x ∈ [(Instr.readPoints tag ps, (0x12 : Byte), 2), (.readInterlock tag ps, 0x22, 1), (.readLine tag ps, 0x31, 1),
        (.serviceClose tag ps, 0x35, 1), (.setReporting tag ps, 0x40, 4), (.readChanges tag ps, 0x41, 0),
        (.reportHold tag ps, 0x42, 2), (.readDevice tag ps, 0x02, 0), (.reset tag ps, 0x03, 0), (.start tag ps, 0x04, 0),
        (.stop tag ps, 0x05, 0), (.enterSafe tag ps, 0x06, 0), (.resume tag ps, 0x07, 0)],
      ps.length ≠ x.2.2 → exec x.1 s = onlyAnswers s x.2.1 tag .badLength []) ∧
    (197 < ps.length → exec (.echo tag ps) s = onlyAnswers s 0x01 tag .badLength []) ∧
    (s.dev.mode = .config →
      (∀ x ∈ [(Instr.clearPoint tag ps, (0x11 : Byte), 1), (.setPins tag ps, 0x16, 4), (.clearInterlock tag ps, 0x21, 1),
          (.setLine tag ps, 0x30, 19), (.setMonitor tag ps, 0x08, 3)],
        ps.length ≠ x.2.2 → exec x.1 s = onlyAnswers s x.2.1 tag .badLength []) ∧
      (ps.length < 2 → exec (.definePoint tag ps) s = onlyAnswers s 0x10 tag .badLength []) ∧
      (∀ k n, (k, n) ∈ [(0, 6), (1, 6), (2, 18), (3, 13), (4, 13)] → 2 ≤ ps.length → (byteAt ps 1).toNat = k →
        ps.length ≠ n → exec (.definePoint tag ps) s = onlyAnswers s 0x10 tag .badLength []) ∧
      (ps.length < 6 → exec (.defineInterlock tag ps) s = onlyAnswers s 0x20 tag .badLength []) ∧
      ∀ n, 6 ≤ ps.length → (byteAt ps 5).toNat = n → 1 ≤ n → n ≤ 8 → ps.length ≠ 6 + 6 * n →
        exec (.defineInterlock tag ps) s = onlyAnswers s 0x20 tag .badLength []) ∧
    (s.dev.mode = .run →
      (∀ x ∈ [(Instr.force tag ps, (0x14 : Byte), 3), (.release tag ps, 0x15, 1), (.serviceOpen tag ps, 0x33, 1)],
        ps.length ≠ x.2.2 → exec x.1 s = onlyAnswers s x.2.1 tag .badLength []) ∧
      (ps.length < 2 ∨ 32 < ps.length ∨ ps.length % 2 = 1 →
        exec (.setOutputs tag ps) s = onlyAnswers s 0x13 tag .badLength []) ∧
      (ps.length < 2 ∨ 25 < ps.length → exec (.serviceTransfer tag ps) s = onlyAnswers s 0x34 tag .badLength [])) ∧
    (s.dev.mode ≠ .config →
      ∀ x ∈ [(Instr.acknowledge tag ps, (0x23 : Byte)), (.restartLine tag ps, 0x32)],
        ps.length ≠ 1 → exec x.1 s = onlyAnswers s x.2 tag .badLength [])

/-- Requests that name something outside its range, undefined, of the wrong kind or not in a fit state are refused by the status
their rules give, and change nothing (R25, R27, R66 to R68, R73, R81, R84, R88, R128, R130, R154). -/
def Obligations.RequestsAreRefusedByOperand : Prop :=
  ∀ (tag b : Byte) (s : State), Takes s →
    -- an index outside 0 to 47
    (48 ≤ b.toNat →
      exec (.readInterlock tag [b]) s = onlyAnswers s 0x22 tag .badValue [] ∧
      (s.dev.mode = .config → exec (.clearInterlock tag [b]) s = onlyAnswers s 0x21 tag .badValue []) ∧
      (s.dev.mode ≠ .config → exec (.acknowledge tag [b]) s = onlyAnswers s 0x23 tag .badValue [])) ∧
    -- a line outside 0 to 2
    (3 ≤ b.toNat →
      exec (.readLine tag [b]) s = onlyAnswers s 0x31 tag .badValue [] ∧
      exec (.serviceClose tag [b]) s = onlyAnswers s 0x35 tag .badValue [] ∧
      (s.dev.mode ≠ .config → exec (.restartLine tag [b]) s = onlyAnswers s 0x32 tag .badValue []) ∧
      (s.dev.mode = .run → exec (.serviceOpen tag [b]) s = onlyAnswers s 0x33 tag .badValue [] ∧
        ∀ payload, 1 ≤ payload.length → payload.length ≤ 24 →
          exec (.serviceTransfer tag (b :: payload)) s = onlyAnswers s 0x34 tag .badValue [])) ∧
    -- an undefined entry
    (∀ i : EntryIx, b = byteOf i.val → s.entry? i = none →
      (s.dev.mode = .config → exec (.clearInterlock tag [b]) s = onlyAnswers s 0x21 tag .noSuch []) ∧
      (s.dev.mode ≠ .config → exec (.acknowledge tag [b]) s = onlyAnswers s 0x23 tag .noSuch [])) ∧
    -- an undefined point
    (∀ p : PointId, b = idByte p → s.point? p = none →
      (s.dev.mode = .config → exec (.clearPoint tag [b]) s = onlyAnswers s 0x11 tag .noSuch []) ∧
      (s.dev.mode = .run → ∀ v : Word16, exec (.force tag (b :: wordBytes v)) s = onlyAnswers s 0x14 tag .noSuch [])) ∧
    -- a force on a discrete point that is neither 0 nor 1, and a force on a full list
    (∀ (p : PointId) r (v : Word16), b = idByte p → s.point? p = some r → s.dev.mode = .run →
      (r.analog? = none → v ≠ 0 → v ≠ 1 →
        exec (.force tag (b :: wordBytes v)) s = onlyAnswers s 0x14 tag .badValue []) ∧
      (r.analog? ≠ none ∨ v = 0 ∨ v = 1 → s.forceOf p = none → 16 ≤ s.forces.length →
        exec (.force tag (b :: wordBytes v)) s = onlyAnswers s 0x14 tag .noRoom [])) ∧
    -- the first failing pair of a SET OUTPUTS decides its reply
    (∀ (good : List (PointId × Bool)) (p : PointId) (v : Byte) (after : List (Byte × Byte)), s.dev.mode = .run →
      good.length + after.length ≤ 15 → (∀ x ∈ good, s.isOutput x.1 = true) →
      let ps := good.flatMap (fun x => [idByte x.1, flagByte x.2]) ++ [idByte p, v] ++ after.flatMap fun x => [x.1, x.2]
      (s.isOutput p = false → exec (.setOutputs tag ps) s = onlyAnswers s 0x13 tag .noSuch []) ∧
      (s.isOutput p = true → 2 ≤ v.toNat → exec (.setOutputs tag ps) s = onlyAnswers s 0x13 tag .badValue [])) ∧
    -- a line in another state than the request needs
    (∀ l : LineNo, b = lineCode l →
      (s.dev.mode ≠ .config → (s.line l).state = .off →
        exec (.restartLine tag [b]) s = onlyAnswers s 0x32 tag .lineState []) ∧
      (s.dev.mode = .run → (s.line l).service = .none → (s.line l).state ≠ .operate →
        exec (.serviceOpen tag [b]) s = onlyAnswers s 0x33 tag .lineState []) ∧
      ∀ payload, 1 ≤ payload.length → payload.length ≤ 24 → s.dev.mode = .run →
        ((s.line l).service ≠ .granted →
          exec (.serviceTransfer tag (b :: payload)) s = onlyAnswers s 0x34 tag .lineState []) ∧
        ((s.line l).service = .granted → (s.line l).transfer ≠ none →
          exec (.serviceTransfer tag (b :: payload)) s = onlyAnswers s 0x34 tag .busy [])) ∧
    -- a count and a first id of READ POINTS, the enables of SET REPORTING
    (∀ count : Byte, count.toNat = 0 ∨ 16 < count.toNat ∨ 256 < b.toNat + count.toNat →
      exec (.readPoints tag [b, count]) s = onlyAnswers s 0x12 tag .badValue []) ∧
    (∀ ps, ps.length = 4 → (∃ x ∈ ps, 2 ≤ x.toNat) →
      exec (.setReporting tag ps) s = onlyAnswers s 0x40 tag .badValue [])

/-! ### Points, pins and forces -/

/-- A DEFINE POINT in CONFIG creates the record R2 and R24 give, for each kind, every value brought into its range; the reply
carries the fields as taken. The mark of an id already defined is cleared and its record leaves the queue, with the admission that
follows; the other records stay in order (R152, R153). For a SUM or DIFF the station and channel bytes are ignored, and the reply
returns them as carried (DEDUCED, log entry 13). -/
def Obligations.DefinesPoints : Prop :=
  ∀ (tag : Byte) (p : PointId) (report : Bool) (s : State), Takes s → s.dev.mode = .config → TablesInv s →
    -- DI
    (∀ (st : Station) (ch : Nat) (d : Byte), ch ≤ (if st = .trolley then 15 else 63) →
      definesAs s tag p [idByte p, 0, st.code, byteOf ch, flagByte report, d]
        [idByte p, 0, st.code, byteOf ch, flagByte report, byteOf (max 1 (min d.toNat 15))]
        (freshPoint (some ⟨st, ch⟩) report s.dev.tick (.di ⟨max 1 (min d.toNat 15), none, 0, false⟩))) ∧
    -- DO
    (∀ (st : Station) (ch : Nat) (f : Bool), ch ≤ (if st = .trolley then 15 else 63) →
      definesAs s tag p [idByte p, 1, st.code, byteOf ch, flagByte report, flagByte f]
        [idByte p, 1, st.code, byteOf ch, flagByte report, flagByte f]
        (freshPoint (some ⟨st, ch⟩) report s.dev.tick (.dout ⟨f, f, f, f, 0, none⟩))) ∧
    -- AI
    (∀ (st : Station) (ch : Nat) (z g b lo hi d : Word16) (settle : Byte), st ≠ .trolley → ch ≤ 7 → lo.toInt < hi.toInt →
      let head := [idByte p, 2, st.code, byteOf ch, flagByte report]
      let tail := wordBytes g ++ wordBytes b ++ wordBytes lo ++ wordBytes hi
      let e0 := zeroWithin lo.toInt hi.toInt
      definesAs s tag p (head ++ wordBytes z ++ tail ++ wordBytes d ++ [settle])
        (head ++ natBytes (min z.toNat 4095) ++ tail ++ natBytes (min d.toNat 1000)
          ++ [byteOf (max 1 (min settle.toNat 15))])
        (freshPoint (some ⟨st, ch⟩) report s.dev.tick (.ai {
          zero := min z.toNat 4095, gain := g.toInt, offset := b.toInt, settle := max 1 (min settle.toNat 15), validRun := 0
          analog := ⟨lo.toInt, hi.toInt, min d.toNat 1000, e0, .none, e0⟩ }))) ∧
    -- SUM and DIFF
    (∀ (k : DerivedKind) (x y : Byte) (a b : PointId) (lo hi d : Word16), lo.toInt < hi.toInt →
      let head := [idByte p, (match k with | .sum => 3 | .diff => 4), x, y, flagByte report, idByte a, idByte b]
        ++ wordBytes lo ++ wordBytes hi
      let e0 := zeroWithin lo.toInt hi.toInt
      definesAs s tag p (head ++ wordBytes d) (head ++ natBytes (min d.toNat 1000))
        (freshPoint none report s.dev.tick
          (.derived ⟨k, a, b, ⟨lo.toInt, hi.toInt, min d.toNat 1000, e0, .none, e0⟩⟩))) ∧
    -- refused values
    (∀ (b k st ch rep v : Byte), k.toNat ≤ 1 →
      4 ≤ st.toNat ∨ (st = 3 ∧ 15 < ch.toNat) ∨ (st.toNat ≤ 2 ∧ 63 < ch.toNat) ∨ 2 ≤ rep.toNat ∨ (k = 1 ∧ 2 ≤ v.toNat) →
      exec (.definePoint tag [b, k, st, ch, rep, v]) s = onlyAnswers s 0x10 tag .badValue []) ∧
    (∀ (b st ch rep settle : Byte) (z g o lo hi d : Word16),
      3 ≤ st.toNat ∨ 7 < ch.toNat ∨ 2 ≤ rep.toNat ∨ hi.toInt ≤ lo.toInt →
      exec (.definePoint tag ([b, 2, st, ch, rep] ++ wordBytes z ++ wordBytes g ++ wordBytes o ++ wordBytes lo
        ++ wordBytes hi ++ wordBytes d ++ [settle])) s = onlyAnswers s 0x10 tag .badValue []) ∧
    (∀ (b k st ch rep x y : Byte) (lo hi d : Word16), k = 3 ∨ k = 4 → 2 ≤ rep.toNat ∨ hi.toInt ≤ lo.toInt →
      exec (.definePoint tag ([b, k, st, ch, rep, x, y] ++ wordBytes lo ++ wordBytes hi ++ wordBytes d)) s
        = onlyAnswers s 0x10 tag .badValue []) ∧
    ∀ (b k : Byte) (rest : List Byte), 5 ≤ k.toNat →
      exec (.definePoint tag (b :: k :: rest)) s = onlyAnswers s 0x10 tag .badValue []

/-- CLEAR POINT and CLEAR INTERLOCK remove one record: its mark is cleared, then its queue record leaves, then the first entity still
marked is admitted; the other queue records stay in order, and nothing else changes (R25, R66, R152, R153). -/
def Obligations.ClearsRecords : Prop :=
  ∀ (tag : Byte) (s : State), Takes s → s.dev.mode = .config → TablesInv s →
    (∀ p : PointId, s.point? p ≠ none →
      ∃ u, repliesWith (.clearPoint tag [idByte p]) s 0x11 tag .ok [] u ∧ u.point? p = none ∧
        u.hasRecord (.point p) = false ∧
        let v := { taken s with points := s.points.filter fun e => e.1 ≠ p }
        AgreesButQueue v u ∧ (QueueInv s → forgets v u fun k => k = .point p)) ∧
    ∀ i : EntryIx, s.entry? i ≠ none →
      ∃ u, repliesWith (.clearInterlock tag [byteOf i.val]) s 0x21 tag .ok [] u ∧ u.entry? i = none ∧
        u.hasRecord (.interlock i) = false ∧
        let v := { taken s with entries := s.entries.filter fun e => e.1 ≠ i }
        AgreesButQueue v u ∧ (QueueInv s → forgets v u fun k => k = .interlock i)

/-- READ POINTS answers one entry of 11 bytes for each id from the first upward, with the value and range flag the point
presents, and changes nothing (R3, R26, R184). -/
def Obligations.ReadsPoints : Prop :=
  ∀ (tag : Byte) (first count : Nat) (s : State), Takes s → 1 ≤ count → count ≤ 16 → first + count ≤ 256 →
    ∃ entry : PointId → List Byte,
      exec (.readPoints tag [byteOf first, byteOf count]) s = onlyAnswers s 0x12 tag .ok
        (((List.finRange 256).filter fun p => decide (first ≤ p.val ∧ p.val < first + count)).flatMap entry) ∧
      ∀ p, (s.point? p = none → entry p = [idByte p, 0xFF, 0, 0, 0, 0, 0, 0, 0, 0, 0]) ∧
        ∀ r, s.point? p = some r → ∃ (v : Int) (rf : RangeFlag),
          entry p = [idByte p, r.body.code, r.quality.code, flagByte r.forced] ++ intBytes v ++ [rf.code]
            ++ tickBytes r.lastChange ∧
          (∀ f, r.forced = true → s.forceOf p = some f → v = f.value ∧ rf = f.range) ∧
          (r.forced = false →
            match r.body with
            | .di d => v = (if d.qualified then 1 else 0) ∧ rf = .none
            | .dout d => v = (if d.effective then 1 else 0) ∧ rf = .none
            | .ai d => v = d.analog.value ∧ rf = d.analog.range
            | .derived d => v = d.analog.value ∧ rf = d.analog.range)

/-- SET OUTPUTS in RUN writes every commanded value, a later pair of one point winning, and then leaves each written point's
effective value as R59 gives it; nothing else changes but what those outputs' notices and terms touch (R27, R61, R62). -/
def Obligations.SetsOutputs : Prop :=
  ∀ (tag : Byte) (pairs : List (PointId × Bool)) (s : State), Takes s → s.dev.mode = .run → TablesInv s →
    1 ≤ pairs.length → pairs.length ≤ 16 → (∀ x ∈ pairs, s.isOutput x.1 = true) →
    ∃ u, repliesWith (.setOutputs tag (pairs.flatMap fun x => [idByte x.1, flagByte x.2])) s 0x13 tag .ok [] u ∧
      Agrees ((taken s).commandedBy pairs) u ∧ ∀ x ∈ pairs, Gated u x.1

/-- SET PINS in CONFIG replaces the direction and reset level of all 16 pins, and is refused in another mode or with another
length (R20). In every state an IN pin drives nothing, and an OUT pin drives the effective value of its lowest DO point, which in
CONFIG is its fail value, else its reset level (R21). -/
def Obligations.SetsPins : Prop :=
  (∀ (tag : Byte) (direction level : Word16) (ps : List Byte) (s : State), Takes s →
    (s.dev.mode = .config →
      repliesWith (.setPins tag (wordBytes direction ++ wordBytes level)) s 0x16 tag .ok
        (wordBytes direction ++ wordBytes level)
        { taken s with pins := { s.pins with direction := direction, resetLevel := level } }) ∧
    (s.dev.mode = .config → ps.length ≠ 4 → exec (.setPins tag ps) s = onlyAnswers s 0x16 tag .badLength []) ∧
    (s.dev.mode ≠ .config → exec (.setPins tag ps) s = onlyAnswers s 0x16 tag .mode [])) ∧
  ∀ (s : State) (k : Nat), TablesInv s → k < 16 →
    (s.pins.direction.getLsbD k = false → s.pinDrive k = none) ∧
    (s.pins.direction.getLsbD k = true →
      (∀ p r f, s.point? p = some r → r.place = some ⟨.trolley, k⟩ → r.body = .dout f →
        (∀ q r' f', q < p → s.point? q = some r' → r'.body = .dout f' → r'.place ≠ some ⟨.trolley, k⟩) →
        s.pinDrive k = some f.effective ∧ (GateInv s → s.dev.mode = .config → s.pinDrive k = some f.fail)) ∧
      ((∀ p r f, s.point? p = some r → r.body = .dout f → r.place ≠ some ⟨.trolley, k⟩) →
        s.pinDrive k = some (s.pins.resetLevel.getLsbD k)))

/-- FORCE in RUN places its point on the list at the end, or replaces its value in place, with the value clamped to an analog
point's limits (R73, R74); the forced flag is set, and nothing else changes but what the force's notices and hand-ons touch. A
forced DO's effective value follows R59 (R75). A force that changes nothing leaves the state as it was; any other raises the point's
notice directly, ahead of every other notice of its event, and stamps its last change timestamp (R23, R75, R148). -/
def Obligations.ForcesPoints : Prop :=
  ∀ (tag : Byte) (p : PointId) (v : Word16) (r : Point) (s : State), Takes s → s.dev.mode = .run → Safe s →
    s.point? p = some r → (r.analog? = none → v = 0 ∨ v = 1) → (s.forceOf p ≠ none ∨ s.forces.length < 16) →
    let x := match r.analog? with
      | some a =>
        if v.toInt < a.lo then (a.lo, RangeFlag.under) else if a.hi < v.toInt then (a.hi, .over) else (v.toInt, .none)
      | none => (v.toInt, .none)
    let e : ForceEntry := ⟨p, x.1, x.2⟩
    ∃ u position, repliesWith (.force tag (idByte p :: wordBytes v)) s 0x14 tag .ok
        ([idByte p] ++ intBytes x.1 ++ [x.2.code, byteOf position]) u ∧
      (s.forceOf p = none → position = s.forces.length + 1 ∧
        Agrees (((taken s).setForces (s.forces ++ [e])).modifyPoint p fun r => { r with forced := true }) u) ∧
      (s.forceOf p ≠ none → (s.forces[position - 1]?).map ForceEntry.point = some p ∧
        Agrees ((taken s).setForces (s.forces.set (position - 1) e)) u) ∧
      (s.forceOf p = some e → u = taken s) ∧ Gated u p ∧
      (s.forceOf p ≠ some e → noticed s u (.point p) ∧ (u.point? p).map Point.lastChange = some s.dev.tick)

/-- RELEASE in RUN takes its point off the list, the later entries moving up, and clears its forced flag; a DO's effective value
then follows its commanded value as R59 gives. The point's notice is raised directly, ahead of every other notice of the event. A
point that is not on the list is answered OK with no change (R23, R75, R76, R79, R148). -/
def Obligations.ReleasesPoints : Prop :=
  ∀ (tag : Byte) (p : PointId) (s : State), Takes s → s.dev.mode = .run → Safe s →
    (s.forceOf p = none →
      exec (.release tag [idByte p]) s = onlyAnswers s 0x15 tag .ok [byteOf s.forces.length]) ∧
    (s.forceOf p ≠ none →
      ∃ u, repliesWith (.release tag [idByte p]) s 0x15 tag .ok [byteOf (s.forces.length - 1)] u ∧
        Agrees (((taken s).setForces (s.forces.filter fun f => f.point ≠ p)).modifyPoint p
          fun r => { r with forced := false }) u ∧
        Gated u p ∧ noticed s u (.point p) ∧ (u.point? p).map Point.lastChange = some s.dev.tick)

/-! ### Interlocks -/

/-- DEFINE INTERLOCK in CONFIG holds the carried fields, delay and hysteresis brought into their ranges, BLOCKED with every latch
UNKNOWN and cause UNUSABLE term 0; the reply carries the definition as taken. The mark of an entry already defined is cleared and
its record leaves the queue, with the admission that follows (R152, R153). Bad values are refused (R43, R65). -/
def Obligations.DefinesInterlocks : Prop :=
  ∀ (tag : Byte) (s : State), Takes s → s.dev.mode = .config → TablesInv s →
    (∀ (i : EntryIx) (target : PointId) (latching : Bool) (delay : Word16) (terms : List (PointId × Test × Word16 × Word16)),
      1 ≤ terms.length → terms.length ≤ 8 →
      let bytes := fun (d : Nat) (h : Word16 → Nat) =>
        [byteOf i.val, idByte target, flagByte latching] ++ natBytes d ++ [byteOf terms.length]
          ++ terms.flatMap fun t => [idByte t.1, t.2.1.code] ++ wordBytes t.2.2.1 ++ natBytes (h t.2.2.2)
      let e : Entry := {
        target := target, latching := latching, delay := min delay.toNat 2000
        terms := terms.map fun t => ⟨t.1, t.2.1, t.2.2.1.toInt, min t.2.2.2.toNat 10000, .latchUnknown⟩
        state := .blocked, cause := .unusable 0, timer := none, pending := ⟨false, 0⟩ }
      ∃ u, repliesWith (.defineInterlock tag (bytes delay.toNat fun h => h.toNat)) s 0x20 tag .ok
          (bytes (min delay.toNat 2000) fun h => min h.toNat 10000) u ∧
        u.entry? i = some e ∧ u.hasRecord (.interlock i) = false ∧ AgreesButQueue ((taken s).setEntry i e) u ∧
        (QueueInv s → forgets ((taken s).setEntry i e) u fun k => k = .interlock i)) ∧
    ∀ ps : List Byte, 6 ≤ ps.length →
      ((byteAt ps 5).toNat = 0 ∨ 8 < (byteAt ps 5).toNat →
        exec (.defineInterlock tag ps) s = onlyAnswers s 0x20 tag .badValue []) ∧
      (∀ n, (byteAt ps 5).toNat = n → 1 ≤ n → n ≤ 8 → ps.length = 6 + 6 * n →
        48 ≤ (byteAt ps 0).toNat ∨ 2 ≤ (byteAt ps 2).toNat ∨ (∃ k, k < n ∧ 4 ≤ (byteAt ps (7 + 6 * k)).toNat) →
        exec (.defineInterlock tag ps) s = onlyAnswers s 0x20 tag .badValue [])

/-- A LATCHED entry with every latch TRUE starts its release at an ACKNOWLEDGE, or passes to PERMIT at once with no delay;
with a latch not TRUE it is NOT_CLEAR; in any other state nothing changes. A RELEASING entry's expiry makes it PERMIT. The
target then follows R59. (A term on the entry's own target, which START refuses by R44, could move the entry once more.)
(R52, R53, R68.) That an expiry of an entry that is not RELEASING changes nothing is the model's choice (log entry 4).
A FORCE and a RELEASE of a point that is no DO and no source, whose events evaluate that point's terms alone, move each entry that
tests it by the table of section 3.3: out of BLOCKED with every latch TRUE, out of RELEASING and PERMIT to LATCHED or BLOCKED with
one not TRUE and the timer cancelled, never out of LATCHED; its cause names its first term not TRUE, and every other entry stays as
it is (R45, R50, R51, R54, R55). -/
def Obligations.ReleasesEntries : Prop :=
  ∀ (tag : Byte) (i : EntryIx) (e : Entry) (s : State), s.dev.inReset = false → TablesInv s → s.entry? i = some e →
    (Takes s → s.dev.mode ≠ .config →
      (e.state ≠ .latched → exec (.acknowledge tag [byteOf i.val]) s = onlyAnswers s 0x23 tag .ok []) ∧
      (e.state = .latched → (∃ t ∈ e.terms, t.latch ≠ .latchTrue) →
        exec (.acknowledge tag [byteOf i.val]) s = onlyAnswers s 0x23 tag .notClear []) ∧
      (e.state = .latched → (∀ t ∈ e.terms, t.latch = .latchTrue ∧ t.point ≠ e.target) →
        ∃ u e', repliesWith (.acknowledge tag [byteOf i.val]) s 0x23 tag .ok [] u ∧ Agrees (taken s) u ∧
          u.entry? i = some e' ∧
          e'.unreported = (if e.delay = 0 then { e with state := .permit, timer := none }
            else { e with state := .releasing, timer := some ((e.delay * 32768 + 999) / 1000) }).unreported ∧
          Gated u e.target)) ∧
    (e.state = .releasing → e.timer ≠ none → (∀ t ∈ e.terms, t.point ≠ e.target) →
      ∃ u e', endsIn (.releaseTimerExpiry i) s u ∧ Agrees s u ∧ u.entry? i = some e' ∧
        e'.unreported = { e with state := .permit, timer := none }.unreported ∧ Gated u e.target) ∧
    (e.state ≠ .releasing → endsIn (.releaseTimerExpiry i) s s) ∧
    (Takes s → s.dev.mode = .run → Safe s → ∀ p r, s.point? p = some r → r.isDo = false → s.derivedOf p = [] →
      let evaluated := fun (u : State) =>
        ∃ e', u.entry? i = some e' ∧
          e'.unreported = (if ∃ t ∈ e.terms, t.point = p then e.evaluated (evalTerms u [p] e.terms) else e).unreported ∧
          (e'.cause = .none ↔ ∀ t ∈ e'.terms, t.latch = .latchTrue) ∧
          ∀ k t, e'.terms[k]? = some t → t.latch ≠ .latchTrue → (∀ x ∈ e'.terms.take k, x.latch = .latchTrue) →
            e'.cause = if t.latch = .latchFalse then .failing k else .unusable k
      (∀ v : Word16, (r.analog? = none → v = 0 ∨ v = 1) → (s.forceOf p = none → s.forces.length < 16) →
        (∀ f, s.forceOf p = some f → takenForce r v.toInt ≠ some (f.value, f.range)) →
        ∃ u data, repliesWith (.force tag (idByte p :: wordBytes v)) s 0x14 tag .ok data u ∧ evaluated u) ∧
      (s.forceOf p ≠ none → ∃ u data, repliesWith (.release tag [idByte p]) s 0x15 tag .ok data u ∧ evaluated u))

/-- A term's latch on a usable point by the tables of IS_ON, IS_OFF, ABOVE and BELOW; on an unusable point it is UNKNOWN (R46 to
R49). -/
def Obligations.TermsFollowTheirTables : Prop :=
  ∀ (s : State) (t : Term) (r : Point), s.point? t.point = some r →
    let e := s.presented t.point r
    let after := evalTerms s [t.point] [t]
    let becomes := fun (b : Prop) =>
      (b → after = [{ t with latch := .latchTrue }]) ∧ (¬ b → after = [{ t with latch := .latchFalse }])
    (r.usable = false → after = [{ t with latch := .latchUnknown }]) ∧
    (r.usable = true → e = 0 ∨ e = 1 →
      (t.test = .isOn → becomes (e = 1)) ∧ (t.test = .isOff → becomes (e = 0))) ∧
    (r.usable = true → t.test = .above →
      (t.latch ≠ .latchTrue → becomes (t.threshold ≤ e)) ∧
      (t.latch = .latchTrue → becomes (t.threshold - t.hysteresis ≤ e)) ∧
      (t.hysteresis = 0 → becomes (t.threshold ≤ e))) ∧
    (r.usable = true → t.test = .below →
      (t.latch ≠ .latchTrue → becomes (e ≤ t.threshold)) ∧
      (t.latch = .latchTrue → becomes (e ≤ t.threshold + t.hysteresis)))

/-! ### Records read back -/

/-- READ INTERLOCK, READ LINE, READ DEVICE and a code the part does not assign answer the record as it stands, and change
nothing (R67, R130, R163, R169). The 16 bits of a remaining hold beyond 65535 ms are the free value of log entry 6. The index
returned for an undefined entry is DEDUCED (log entry 12). That an UNKNOWN row whose code the part does assign is answered UNKNOWN
too is the model's choice (log entry 28). -/
def Obligations.ReadsRecords : Prop :=
  ∀ (tag : Byte) (s : State), Takes s →
    (∀ i : EntryIx,
      (s.entry? i = none →
        exec (.readInterlock tag [byteOf i.val]) s = onlyAnswers s 0x22 tag .ok [byteOf i.val, 0]) ∧
      ∀ e, s.entry? i = some e →
        let ms := (e.timer.getD 0 * 1000 + 32767) / 32768
        exec (.readInterlock tag [byteOf i.val]) s = onlyAnswers s 0x22 tag .ok
          ([byteOf i.val, 1, idByte e.target, flagByte e.latching, e.state.code] ++ e.cause.bytes
            ++ natBytes (if e.state = .releasing then max 1 (min e.delay ms) else 0) ++ [byteOf e.terms.length]
            ++ e.terms.flatMap fun t =>
              [idByte t.point, t.test.code] ++ intBytes t.threshold ++ natBytes t.hysteresis ++ [t.latch.code])) ∧
    (∀ l : LineNo, let L := s.line l; let c := L.settings
      exec (.readLine tag [lineCode l]) s = onlyAnswers s 0x31 tag .ok
        ([lineCode l, L.state.code, L.lock.code, flagByte c.enable, rateCode c.rate, c.polarity.code] ++ natBytes c.pollPeriod
          ++ natBytes c.replyTimeout ++ [byteOf c.retryLimit, byteOf c.staleLimit, byteOf c.lossLimit, byteOf c.diBytes,
            byteOf c.doBytes, byteOf c.aiChannels, c.expectedType, flagByte c.exact, c.serial] ++ natBytes c.holdLimit
          ++ [rateCode L.lockedRate, polarityCode L.polarity] ++ identityBytes L.lastAttached ++ [byteOf L.restartCount]
          ++ identityBytes L.lastBeacon ++ natBytes L.beaconDiscards ++ [byteOf L.failures] ++ natBytes L.badTelegrams
          ++ natBytes L.timeouts ++ natBytes L.slips ++ [L.service.code])) ∧
    (∃ hold, (s.port.reportHold = none → hold = natBytes 0) ∧
      (∀ n, s.port.reportHold = some n → (n * 1000 + 32767) / 32768 ≤ 65535 →
        hold = natBytes ((n * 1000 + 32767) / 32768)) ∧ hold.length = 2 ∧
      exec (.readDevice tag []) s = onlyAnswers s 0x02 tag .ok
        ([0x54, 0x03, 0x40, Config.revision, s.dev.mode.code, s.dev.safeAction.code, s.dev.lastCause.code]
          ++ tickBytes s.dev.tick ++ natBytes s.port.discards.framing ++ natBytes s.port.discards.gap
          ++ natBytes s.port.discards.length ++ natBytes s.port.discards.check ++ natBytes s.port.discards.noRoom
          ++ [byteOf s.dev.rateStrap.val, byteOf s.dev.parityStrap.val, flagByte s.port.reportEnable] ++ hold)) ∧
    ∀ (code : Byte) (ps : List Byte),
      exec (.unknown code tag ps) s = onlyAnswers s (if code < 0x80 then code + 0x80 else code) tag .unknown []

/-! ### Drop lines: requests and windows -/

/-- SET LINE in CONFIG replaces every setting of one line, each brought into its range, with the loss limit held to the stale
limit as taken; no other field of the line changes. A value it cannot clamp is refused, and so is another length or another mode
(R112, R113). -/
def Obligations.SetsLines : Prop :=
  (∀ (tag : Byte) (ps : List Byte) (s : State), Takes s →
    (s.dev.mode ≠ .config → exec (.setLine tag ps) s = onlyAnswers s 0x30 tag .mode []) ∧
    (s.dev.mode = .config → ps.length ≠ 19 → exec (.setLine tag ps) s = onlyAnswers s 0x30 tag .badLength [])) ∧
  ∀ (tag : Byte) (s : State), Takes s → s.dev.mode = .config →
    (∀ (l : LineNo) (enable exact : Bool) (rate : Option Rate) (pol : PolaritySetting) (period timeout hold : Word16)
      (retry stale loss type serial : Byte) (di dout ai : Nat), di ≤ 8 → dout ≤ 8 → ai ≤ 8 →
      let stale' := max 1 (min stale.toNat 15)
      let c : LineSettings := {
        enable := enable, rate := rate, polarity := pol
        pollPeriod := max 500 (min period.toNat 20000), replyTimeout := max 100 (min timeout.toNat 5000)
        retryLimit := min retry.toNat 3, staleLimit := stale', lossLimit := max stale' (min loss.toNat 31)
        diBytes := di, doBytes := dout, aiChannels := ai, expectedType := type, exact := exact, serial := serial
        holdLimit := max 500 (min hold.toNat 30000) }
      let head := [lineCode l, flagByte enable, rateCode rate, pol.code]
      let tail := [byteOf di, byteOf dout, byteOf ai, type, flagByte exact, serial]
      repliesWith (.setLine tag (head ++ wordBytes period ++ wordBytes timeout ++ [retry, stale, loss] ++ tail
          ++ wordBytes hold)) s 0x30 tag .ok
        (head ++ natBytes c.pollPeriod ++ natBytes c.replyTimeout
          ++ [byteOf c.retryLimit, byteOf c.staleLimit, byteOf c.lossLimit] ++ tail ++ natBytes c.holdLimit)
        ((taken s).setLine l { s.line l with settings := c })) ∧
    ∀ ps : List Byte, ps.length = 19 →
      (3 ≤ (byteAt ps 0).toNat ∨ 2 ≤ (byteAt ps 1).toNat ∨ 4 ≤ (byteAt ps 2).toNat ∨ 2 ≤ (byteAt ps 3).toNat ∨
        9 ≤ (byteAt ps 11).toNat ∨ 9 ≤ (byteAt ps 12).toNat ∨ 9 ≤ (byteAt ps 13).toNat ∨ 2 ≤ (byteAt ps 15).toNat) →
      exec (.setLine tag ps) s = onlyAnswers s 0x30 tag .badValue []

/-- RESTART LINE on a line that is not OFF closes its window, drops its exchange, cuts its telegram, clears F and the diagnostic
counts, hunts from the first rate, and makes the station's points that are not UNSEEN LOST; the rest of the line keeps its
values. A transfer in flight is answered CLOSED before the restart's own reply (R128). -/
def Obligations.RestartsLines : Prop :=
  ∀ (tag : Byte) (l : LineNo) (s : State), Takes s → s.dev.mode ≠ .config → (s.line l).state ≠ .off → Safe s →
    ∃ u, repliesLast (.restartLine tag [lineCode l]) s 0x32 tag .ok u ∧
      Agrees (((taken s).besides u l).mapStation (stationOfLine l) (Point.moved toLost)) u ∧
      u.port = { s.port with framer := .hunt, replies := s.port.replies ++ closedReplies s l } ∧
      u.line l = { (s.line l).hunting with
        sender := cutSender (s.line l).sender, nextTelegram := none, pollTimer := none, exchange := none, failures := 0
        badTelegrams := 0, timeouts := 0, slips := 0, service := .none, holdTimer := none
        transfer := if closedReplies s l = [] then (s.line l).transfer else none
        replyTimer := (u.line l).replyTimer, expiryHeld := (u.line l).expiryHeld, pending := (u.line l).pending } ∧
      ((s.line l).exchange ≠ none ∨ closedReplies s l ≠ [] →
        (u.line l).replyTimer = none ∧ (u.line l).expiryHeld = false)

/-- SERVICE OPEN on a line in OPERATE grants the window at once with no exchange in flight, and leaves it PENDING with one;
an open or pending window is answered OK with no change. At the hold limit the HELD points are LOST and the window stays open
(R81, R83, R87). That an expiry with no window open changes nothing is the model's choice (log entry 4). -/
def Obligations.OpensWindows : Prop :=
  ∀ (tag : Byte) (l : LineNo) (s : State), s.dev.inReset = false → TablesInv s →
    (Takes s → s.dev.mode = .run →
      ((s.line l).service ≠ .none → exec (.serviceOpen tag [lineCode l]) s = onlyAnswers s 0x33 tag .ok []) ∧
      ((s.line l).service = .none → (s.line l).state = .operate →
        ((s.line l).exchange ≠ none →
          repliesWith (.serviceOpen tag [lineCode l]) s 0x33 tag .pending []
            ((taken s).setLine l { s.line l with service := .pending })) ∧
        ((s.line l).exchange = none →
          ∃ u, repliesWith (.serviceOpen tag [lineCode l]) s 0x33 tag .ok [] u ∧
            Agrees (((taken s).setLine l (s.line l).granted).mapStation (stationOfLine l) (Point.moved toHeld)) u))) ∧
    ((s.line l).service = .granted → (s.line l).holdTimer ≠ none →
      ∃ u, endsIn (.holdTimerExpiry l) s u ∧
        Agrees ((s.setLine l { s.line l with holdTimer := none }).mapStation (stationOfLine l) (Point.moved heldToLost)) u) ∧
    ((s.line l).service ≠ .granted → endsIn (.holdTimerExpiry l) s s)

/-- SERVICE CLOSE in every mode: with no window nothing changes; a pending one is cancelled; a granted one is closed, with the
transfer in flight answered CLOSED first, its SERVICE telegram cut, its reply abandoned, HELD points STALE, and the line polling
from A = 0 (R88, R89). A telegram of another kind than its reply goes on being received (R145); with only its OPEN taken, its first
symbol will tell, as SymbolsAreTaken states (the model's choice where no kind becomes known, log entry 36). -/
def Obligations.ClosesWindows : Prop :=
  ∀ (tag : Byte) (l : LineNo) (s : State), Takes s → Safe s →
    ((s.line l).service = .none → exec (.serviceClose tag [lineCode l]) s = onlyAnswers s 0x35 tag .ok []) ∧
    ((s.line l).service = .pending →
      repliesWith (.serviceClose tag [lineCode l]) s 0x35 tag .ok []
        ((taken s).setLine l { s.line l with service := .none })) ∧
    ((s.line l).service = .granted →
      ∃ u, repliesLast (.serviceClose tag [lineCode l]) s 0x35 tag .ok u ∧
        Agrees (((taken s).besides u l).mapStation (stationOfLine l) (Point.moved heldToStale)) u ∧
        u.port = { s.port with framer := .hunt, replies := s.port.replies ++ closedReplies s l } ∧
        u.line l = { (s.line l).closing.polling with
          service := .none, state := .operate, holdTimer := none
          transfer := if closedReplies s l = [] then (s.line l).transfer else none
          pending := (u.line l).pending })

/-- SERVICE TRANSFER occupies the slot and hands its SERVICE telegram to the sender, with its reply deferred; an intact SERVICE
REPLY of its sequence number ends it OK with the payload, a bad telegram or the reply timer ends it TIMEOUT, and any other intact
telegram leaves it waiting, or ends it TIMEOUT where an expiry was held (R84 to R86, R120, R135). A telegram in the part's own turn
is not received (R93), as TurnsAndHuntsProceed states. A sender that is not IDLE is the model's choice (log entry 9), and so is a
telegram that ends with the transfer AWAITING, taken as in RECEIVING (log entry 11), a bad one that an earlier closing may have
abandoned (log entry 36), and that a WAITING turn does not begin at an OPEN inside a telegram (log entry 41). -/
def Obligations.TransfersPayloads : Prop :=
  ∀ (l : LineNo) (s : State), s.dev.inReset = false → LineInv s →
    (∀ (tag : Byte) (payload : List Byte), Takes s → s.dev.mode = .run → 1 ≤ payload.length → payload.length ≤ 24 →
      (s.line l).service = .granted → (s.line l).transfer = none →
      let L := s.line l
      let t : Telegram := ⟨.service, L.sequence, payload⟩
      let L1 := { L with
        sequence := L.sequence + 1, transfer := some ⟨tag, L.sequence, payload, .sending⟩, replyTimer := none
        expiryHeld := false }
      (L.sender = .idle → endsIn (.serviceTransfer tag (lineCode l :: payload)) s ((taken s).setLine l { L1 with
        sender := match L.receiver with
          | .outside => .sending t (.leadIn 3)
          | _ => .waiting t })) ∧
      (L.sender ≠ .idle →
        endsIn (.serviceTransfer tag (lineCode l :: payload)) s ((taken s).setLine l (L1.handOver t)))) ∧
    ∀ t, (s.line l).state = .service → (s.line l).transfer = some t →
      let freed := { s.line l with replyTimer := none, expiryHeld := false }
      let ends := fun (c : Instr) (u : State) => endsIn c s (u.setLine l (u.line l).startWaiting)
      (t.progress = .awaiting ∨ t.progress = .receiving → (s.line l).driving = false →
        (∀ payload, payload.length ≤ 24 →
          ends (.serviceReply l t.seq payload) (s.handed l { freed with receiver := .outside } t .ok payload)) ∧
        (∀ c n, discardable l (s.line l) c n → (∀ payload, c ≠ .serviceReply l t.seq payload) →
          ((s.line l).expiryHeld = false →
            ends c (s.setLine l { s.line l with
              receiver := .outside, beaconDiscards := n, transfer := some { t with progress := .awaiting } })) ∧
          ((s.line l).expiryHeld = true →
            ends c (s.handed l { freed with
              receiver := .outside, beaconDiscards := n, timeouts := min ((s.line l).timeouts + 1) 65535 } t .timeout []))) ∧
        ∀ cause, ends (.badTelegram l cause) (s.handed l (freed.discards cause) t .timeout [])) ∧
      (t.progress = .awaiting → (s.line l).replyTimer ≠ none →
        endsIn (.replyTimerExpiry l) s
          (s.handed l { freed with timeouts := min ((s.line l).timeouts + 1) 65535 } t .timeout [])) ∧
      (t.progress = .receiving → (s.line l).replyTimer ≠ none →
        endsIn (.replyTimerExpiry l) s (s.setLine l { s.line l with replyTimer := none, expiryHeld := true })) ∧
      (t.progress = .sending → (s.line l).driving = false →
        (∀ c n, discardable l (s.line l) c n →
          ends c (s.setLine l { s.line l with receiver := .outside, beaconDiscards := n })) ∧
        ∀ cause, ends (.badTelegram l cause) (s.setLine l ((s.line l).discards cause)))

/-! ### Drop lines: polls, turns and telegrams -/

/-- Each expiry of a running poll timer loads the next cycle of ⌊(A + P × 32768) / 1,000,000⌋ ticks and keeps the remainder in A,
with an exchange in flight or with none. The cycles of a timer started with A = 0 and any period in range last
⌊N × P × 32768 / 1,000,000⌋ ticks for the first N, each 16 to 656 ticks (R115). -/
def Obligations.PollCyclesKeepTheirSchedule : Prop :=
  (∀ (l : LineNo) (s : State), s.dev.inReset = false → (s.line l).state = .operate → (s.line l).pollTimer ≠ none →
    let total := (s.line l).accumulator + (s.line l).settings.pollPeriod * 32768
    ∃ t, exec (.pollTimerExpiry l) s = .next t ∧ (t.line l).pollTimer = some (total / 1000000) ∧
      (t.line l).accumulator = total % 1000000) ∧
  ∀ (L : Line), 500 ≤ L.settings.pollPeriod → L.settings.pollPeriod ≤ 20000 →
    let cycle := fun n => (Line.loadCycle^[n] L.startPoll).pollTimer.getD 0
    (∀ n, ((List.range n).map cycle).sum = n * (L.settings.pollPeriod * 32768) / 1000000) ∧
      ∀ n, 16 ≤ cycle n ∧ cycle n ≤ 656 ∧ (Line.loadCycle^[n] L.startPoll).accumulator < 1000000

/-- A poll timer's expiry on a line in OPERATE loads the next cycle, and starts an exchange whose POLL carries the effective
values in force, each recorded as sent; with an exchange in flight it is a slip (R11, R63, R115, R116, R118). That an expiry
on a line outside OPERATE changes nothing is the model's choice (log entry 4), and so is what becomes of a POLL handed to a
sender that is not IDLE (log entry 9). -/
def Obligations.PollsStart : Prop :=
  ∀ (l : LineNo) (s : State), s.dev.inReset = false →
    let L := s.line l
    let total := L.accumulator + L.settings.pollPeriod * 32768
    let L1 := { L with pollTimer := some (total / 1000000), accumulator := total % 1000000 }
    (L.state = .operate → L.pollTimer ≠ none → L.exchange = none →
      ∃ image, imageIs s (stationOfLine l) L.settings.doBytes image ∧
        endsIn (.pollTimerExpiry l) s (attemptBuilt s l L1 1 image)) ∧
    (L.state = .operate → L.pollTimer ≠ none → L.exchange ≠ none →
      endsIn (.pollTimerExpiry l) s (s.setLine l { L1 with slips := min (L.slips + 1) 65535 })) ∧
    (L.state ≠ .operate → endsIn (.pollTimerExpiry l) s s)

/-- The part's own turns, an OPEN received, and the dwell timer: after SHUT the tail follows and what the telegram served starts
its reply timer; after the last tail FILL the pair is released; while the part drives, from the first lead-in FILL to the last
tail FILL, its receiver takes nothing: no OPEN, no telegram, no bit of a hunt; an OPEN outside a telegram begins one and stops the
wait; a dwell's end takes the next rate with the runs cleared (R93, R96, R102, R105, R119). What comes to a line with no lock, a
LOCK on a line that does not hunt, a dwell that is not running, and a turn that is not in progress, leave the state as it is (the
model's choices, log entries 3 and 4). -/
def Obligations.TurnsAndHuntsProceed : Prop :=
  ∀ (l : LineNo) (s : State), s.dev.inReset = false →
    let L := s.line l
    let timer := some ((L.settings.replyTimeout * 32768 + 999999) / 1000000)
    (∀ t ph, L.sender = .sending t ph → ph ≠ .tail →
      (t.kind = .poll →
        (∀ x, L.exchange = some x → x.phase = .sending → x.seq = t.seq →
          endsIn (.shutSent l) s (s.setLine l { L with
            sender := .sending t .tail, exchange := some { x with phase := .awaiting }, replyTimer := timer })) ∧
        ((∀ x, L.exchange = some x → x.phase ≠ .sending ∨ x.seq ≠ t.seq) →
          endsIn (.shutSent l) s (s.setLine l { L with sender := .sending t .tail }))) ∧
      (t.kind = .service →
        (∀ x, L.transfer = some x → x.progress = .sending → x.seq = t.seq →
          endsIn (.shutSent l) s (s.setLine l { L with
            sender := .sending t .tail, transfer := some { x with progress := .awaiting }, replyTimer := timer })) ∧
        ((∀ x, L.transfer = some x → x.progress ≠ .sending ∨ x.seq ≠ t.seq) →
          endsIn (.shutSent l) s (s.setLine l { L with sender := .sending t .tail })))) ∧
    ((∃ t, L.sender = .sending t .tail) ∨ L.sender = .aborting → L.nextTelegram = none →
      endsIn (.turnEnd l) s (s.setLine l { L with sender := .idle, receiver := .outside })) ∧
    (L.sender = .idle → endsIn (.turnEnd l) s s ∧ endsIn (.shutSent l) s s) ∧
    (L.lock = .locked → L.driving = false → L.receiver = .outside →
      endsIn (.openReceived l) s (s.setLine l { L with
        receiver := .inside [], exchange := L.waitIn .receiving, transfer := L.transferIn .receiving })) ∧
    (L.lock = .locked → L.driving = false → L.receiver ≠ .outside →
      exec (.openReceived l) s = exec (.badTelegram l .openInside) s) ∧
    (L.lock = .acquire ∨ L.driving = true → ∀ c, received l c → endsIn c s s) ∧
    (L.lock = .locked ∨ L.state ≠ .acquire ∨ L.driving = true → ∀ bits, endsIn (.lock l bits) s s) ∧
    (L.dwell ≠ none →
      endsIn (.dwellTimerExpiry l) s (s.setLine l { L with
        huntRate := (match L.huntRate with | .r2M => .r1M | .r1M => .r250k | .r250k => .r2M)
        straightRuns := Vector.replicate 5 0, complementRuns := Vector.replicate 5 0, huntBits := [], huntPos := 0
        dwell := some 656 })) ∧
    (L.dwell = none → endsIn (.dwellTimerExpiry l) s s)

/-- An attempt that times out, or meets a bad telegram, is counted and retried at once with its values taken afresh, up to the
retry limit; then the exchange has failed, F goes up, and the stale limit, the loss limit and a pending window follow. An expiry
while a telegram is being received is held; the attempt then ends timed out where the telegram, a malformed beacon among them,
does not complete it. An attempt still SENDING is not ended (R82, R119 to R121, R124, R135). A telegram in the part's own turn is
not received (R93), as TurnsAndHuntsProceed states. A telegram that ends with the attempt AWAITING, taken as in RECEIVING, is the
model's choice (log entry 11), and so are a bad one that an earlier closing may have abandoned (log entry 36), that a WAITING turn
does not begin at an OPEN inside a telegram (log entry 41), and a retry handed to a sender that is not IDLE (log entry 9). -/
def Obligations.AttemptsFail : Prop :=
  ∀ (l : LineNo) (s : State) (x : Exchange), s.dev.inReset = false → Safe s → (s.line l).exchange = some x →
    let L := s.line l
    (x.phase = .awaiting → L.replyTimer ≠ none →
      attemptFails (.replyTimerExpiry l) s l { L with timeouts := min (L.timeouts + 1) 65535 } x id) ∧
    (x.phase = .receiving → L.replyTimer ≠ none →
      endsIn (.replyTimerExpiry l) s (s.setLine l { L with replyTimer := none, expiryHeld := true })) ∧
    (∀ cause, L.driving = false → x.phase ≠ .sending → attemptFails (.badTelegram l cause) s l (L.discards cause) x Line.startWaiting) ∧
    (∀ cause, L.driving = false → x.phase = .sending →
      endsIn (.badTelegram l cause) s (s.setLine l (L.discards cause).startWaiting)) ∧
    ∀ c n, discardable l L c n → L.driving = false → (∀ body, c ≠ .reply l x.seq body) → x.phase ≠ .sending → L.expiryHeld = true →
      attemptFails c s l
        { L with receiver := .outside, beaconDiscards := n, timeouts := min (L.timeouts + 1) 65535 } x Line.startWaiting

/-- A REPLY with the present attempt's sequence number makes the exchange good: F is 0, the station's points take their samples
in place, and a pending window is granted. Any other intact telegram but an accepted beacon is discarded, in every locked line
state: a late or unawaited REPLY, a SERVICE REPLY outside a window, a REPLY in one. A REPLY of another length is a bad telegram;
with no exchange and no transfer in flight a bad telegram is counted and no more (R82, R103, R119, R120, R123, R133, R135). A telegram
in the part's own turn is not received (R93), as TurnsAndHuntsProceed states. A good reply taken with the attempt AWAITING, as in
RECEIVING, is the model's choice (log entry 11), and so are a bad one that an earlier closing may have abandoned (log entry 36), and
that a WAITING turn does not begin at an OPEN inside a telegram (log entry 41). -/
def Obligations.RepliesAreDelivered : Prop :=
  ∀ (l : LineNo) (seq : Nibble) (body : List Byte) (s : State), s.dev.inReset = false → Safe s →
    (s.line l).lock = .locked → (s.line l).driving = false →
    let L := s.line l
    (L.exchange = none → L.transfer.map Transfer.inFlight ≠ some true → ∀ cause,
      endsIn (.badTelegram l cause) s (s.setLine l (L.discards cause).startWaiting)) ∧
    (body.length + 3 ≠ L.settings.replyLength →
      exec (.reply l seq body) s = exec (.badTelegram l .badLength) (s.setLine l { L with receiver := .outside })) ∧
    (body.length + 3 = L.settings.replyLength →
      (∀ x, L.exchange = some x → x.phase ≠ .sending → seq = x.seq →
        ∃ u, endsIn (.reply l seq body) s u ∧
          Agrees ((s.setLine l ({ L with receiver := .outside }.exchangeEnded 0).startWaiting).mapStation (stationOfLine l)
            fun r =>
              let r1 := sampleOfReply ⟨body.take L.settings.diBytes,
                (body.drop L.settings.diBytes).take (2 * L.settings.aiChannels),
                body.drop (L.settings.diBytes + 2 * L.settings.aiChannels)⟩ r
              if L.service = .pending then r1.moved toHeld else r1) u)) ∧
    ∀ c n, discardable l L c n → L.transfer.map Transfer.inFlight ≠ some true →
      (∀ x, L.exchange = some x → x.phase = .sending ∨ (∀ b, c ≠ .reply l x.seq b) ∧ L.expiryHeld = false) →
      endsIn c s (s.setLine l
        { L with receiver := .outside, beaconDiscards := n, exchange := L.waitIn .awaiting }.startWaiting)

/-- An accepted beacon by line state, match and identity: the table of R136 with the fields R137 to R144 give the line, the
moves of its station's points, and the closing of a window in SERVICE. A POLL being sent or waiting is not cut, an abandoned
exchange's reply timer stops with its held expiry, and only a closed transfer's SERVICE telegram is cut (R126, R140, R144). A
beacon that fails its form is counted and ends nothing (R135). The line's notice is the event's first, and is raised directly by a
station restart, whose count may stay at 255 (R141, R148); a line that stays REJECTED raises none. A beacon in the part's own turn is
not received (R93), as TurnsAndHuntsProceed states. That an accepted beacon cancels a pending window in OPERATE is DEDUCED (log
entry 32). -/
def Obligations.BeaconsAreHandled : Prop :=
  ∀ (l : LineNo) (s : State), s.dev.inReset = false → Safe s → (s.line l).lock = .locked → (s.line l).driving = false →
    let L := s.line l
    (∀ i : Identity,
      let fits : Prop := i.type = L.settings.expectedType ∧ (L.settings.exact = true → i.serial = L.settings.serial)
      let polled : Prop := L.state = .operate ∨ L.state = .service
      let word : Word16 := i.type ++ i.serial
      ∃ u, endsIn (.beacon l 0 word word word word) s u ∧
        (fits ∨ L.state ≠ .rejected → noticed s u (.line l)) ∧ (¬ fits → L.state = .rejected → u.queue = s.queue) ∧
        Agrees ((s.besides u l).mapStation (stationOfLine l) fun r =>
          let r1 := if L.state = .service then r.moved heldToStale else r
          if fits then (if L.lastAttached = some i then r1 else r1.moved toUnseen)
          else if polled then r1.moved toLost else r1) u ∧
        portKept s u ∧ outbound u = outbound s ++ (if L.state = .service then closedReplies s l else []) ∧
        let M := u.line l
        M.lastBeacon = some i ∧ M.service = .none ∧ M.exchange = none ∧ M.holdTimer = none ∧ M.lock = .locked ∧
        M.settings = L.settings ∧ M.sequence = L.sequence ∧ M.badTelegrams = L.badTelegrams ∧ M.timeouts = L.timeouts ∧
        M.slips = L.slips ∧ M.beaconDiscards = L.beaconDiscards ∧ M.receiver = .outside ∧
        (L.state ≠ .service → M.sender = L.sender.turnBegun ∧ M.nextTelegram = L.nextTelegram ∧ M.transfer = L.transfer) ∧
        (L.state = .service → M.sender =
          if L.transfer.map Transfer.progress = some .sending ∧ L.sender.kind = some .service then cutSender L.sender
          else L.sender.turnBegun) ∧
        M.replyTimer = none ∧ M.expiryHeld = false ∧
        (fits → M.state = .operate ∧ M.lastAttached = some i ∧ M.failures = L.failures ∧
          M.restartCount = (if L.lastAttached = some i then
            (if polled then min (L.restartCount + 1) 255 else L.restartCount) else 0) ∧
          (L.state ≠ .operate → M.pollTimer = some (L.settings.pollPeriod * 32768 / 1000000)) ∧
          (L.state = .operate → M.pollTimer = L.pollTimer ∧ M.accumulator = L.accumulator)) ∧
        (¬ fits → M.state = .rejected ∧ M.lastAttached = L.lastAttached ∧ M.restartCount = L.restartCount ∧
          M.failures = 0 ∧ M.pollTimer = none)) ∧
    ∀ (seq : Nibble) (w0 w1 w2 w3 : Word16), ¬ (seq = 0 ∧ w0 = w1 ∧ w1 = w2 ∧ w2 = w3) → L.expiryHeld = false →
      endsIn (.beacon l seq w0 w1 w2 w3) s (s.setLine l { L with
        receiver := .outside, beaconDiscards := min (L.beaconDiscards + 1) 65535, exchange := L.waitIn .awaiting
        transfer := if L.state = LineState.service then L.transferIn .awaiting else L.transfer }.startWaiting)

/-- The hunt, bit by bit: the five most recent bits are a code at the alignment of the bit's position; FILL counts in the straight run
and clears the complemented one, the complement of FILL does the reverse where polarity is AUTO and is not counted under NORMAL, and
any other code clears both; a run that reaches 8 locks the line at its alignment, as NORMAL or REVERSED, with the line's notice, and
what comes after is not examined. So eight FILLs at a fresh hunt's alignment lock it as NORMAL, eight complements of FILL as REVERSED
under polarity AUTO, and give no lock under NORMAL (R97, R99). That a hunt's first four bits complete no code is DEDUCED (log entry
23). LOCK_LOSS, which SymbolsAreTaken gives at a silence count of 2048, loses the lock: the window is closed, the exchange ends, the
line hunts from its first rate, and the points of a line that polled or was in SERVICE are LOST (R100). While the part still drives
the pair no bit is examined (R93), as TurnsAndHuntsProceed states. The hunt's position 0 at its start, the loss of lock given as a
command, and one on a line with no lock are the model's choices (log entries 4, 23, 27). -/
def Obligations.LocksAreFoundAndLost : Prop :=
  ∀ (l : LineNo) (s : State), s.dev.inReset = false →
    let L := s.line l
    let found := fun (at_ : Fin 5) (pol : Polarity) => { L with
      state := .awaitBeacon, lock := .locked, lockedRate := some L.huntRate, polarity := some pol, alignment := at_
      straightRuns := Vector.replicate 5 0, complementRuns := Vector.replicate 5 0, huntBits := [], huntPos := 0
      silence := 0, dwell := none, receiver := .outside }
    (L.state = .acquire → L.lock = .acquire → L.driving = false → LineInv s → endsIn (.lock l []) s s ∧
      ∀ (b : Bool) (rest : List Bool),
        let a := L.huntPos
        let five := L.huntBits.drop (L.huntBits.length - 4) ++ [b]
        let straight := L.straightRuns[a]
        let complemented := L.complementRuns[a]
        let goesOn := fun (M : Line) => exec (.lock l (b :: rest)) s = exec (.lock l rest) (s.setLine l M)
        let locks := fun (pol : Polarity) => ∃ u, endsIn (.lock l (b :: rest)) s u ∧
          AgreesButQueue (s.setLine l (found a pol)) u ∧ noticed s u (.line l)
        let hunted := { L with huntBits := five, huntPos := a + 1 }
        (L.huntBits.length < 4 → goesOn hunted) ∧
        (4 ≤ L.huntBits.length →
          (five = [true, false, true, false, true] →
            (straight = 7 → locks .normal) ∧
            (straight < 7 → goesOn { hunted with
              straightRuns := L.straightRuns.set a (straight + 1), complementRuns := L.complementRuns.set a 0 })) ∧
          (five = [false, true, false, true, false] → L.settings.polarity = .auto →
            (complemented = 7 → locks .reversed) ∧
            (complemented < 7 → goesOn { hunted with
              straightRuns := L.straightRuns.set a 0, complementRuns := L.complementRuns.set a (complemented + 1) })) ∧
          (five = [false, true, false, true, false] → L.settings.polarity = .normal →
            goesOn { hunted with straightRuns := L.straightRuns.set a 0 }) ∧
          (five ≠ [true, false, true, false, true] → five ≠ [false, true, false, true, false] →
            goesOn { hunted with
              straightRuns := L.straightRuns.set a 0, complementRuns := L.complementRuns.set a 0 }))) ∧
    (L.state = .acquire → L.lock = .acquire → L.driving = false → L.huntBits = [] → L.huntPos = 0 →
      L.straightRuns = Vector.replicate 5 0 → L.complementRuns = Vector.replicate 5 0 →
      let fill := (List.replicate 8 [true, false, true, false, true]).flatten
      (∃ u, endsIn (.lock l fill) s u ∧ AgreesButQueue (s.setLine l (found 4 .normal)) u) ∧
      (L.settings.polarity = .auto → ∃ u, endsIn (.lock l (fill.map not)) s u ∧
        AgreesButQueue (s.setLine l (found 4 .reversed)) u) ∧
      (L.settings.polarity = .normal → ∃ L', endsIn (.lock l (fill.map not)) s (s.setLine l L') ∧
        L' = { L with
          straightRuns := L'.straightRuns, complementRuns := L'.complementRuns, huntBits := L'.huntBits
          huntPos := L'.huntPos })) ∧
    (L.lock = .locked → Safe s →
      ∃ u, endsIn (.lockLoss l) s u ∧
        Agrees ((s.besides u l).mapStation (stationOfLine l) fun r =>
          if L.state = .operate ∨ L.state = .service then r.moved toLost else r) u ∧
        portKept s u ∧ outbound u = outbound s ++ (if L.state = .service then closedReplies s l else []) ∧
        u.line l = { L.hunting with
          sender := cutSender L.sender, nextTelegram := none, pollTimer := none, exchange := none, failures := 0
          service := .none, holdTimer := none, transfer := (u.line l).transfer
          replyTimer := (u.line l).replyTimer, expiryHeld := (u.line l).expiryHeld, pending := (u.line l).pending }) ∧
    (L.lock = .acquire → endsIn (.lockLoss l) s s)

/-- One symbol time of a line: with no lock nothing is cut; during the part's own turn nothing is taken and the lead-in runs
down; outside a telegram a FILL clears the silence count, an OPEN begins a telegram, and anything else is a stray; inside one
a data symbol is taken, SHUT on an intact telegram delivers it, and a FILL, an OPEN, an ABORT, an invalid code, a kind no station
sends, an overrun, and a SHUT on a wrong length each discard it as bad. Where the transfer whose reply it may be has been closed, a
first symbol 4 makes the rest strays, uncounted, and another kind goes on as usual (R89, R101); any other symbol there is taken as the
reply's, and a WAITING turn does not begin at an OPEN there, the model's choices (log entries 36, 41). Every symbol
that is not FILL advances the silence count, in the part's own turn too, and the one at which it reaches 2048 loses the lock as
LOCK_LOSS does on the line that the symbol leaves (R93, R100 to R104). The count of a turn's symbols, the order of symbol and count, and a
symbol with no lock are the model's choices (log entries 4, 18, 19), and so are that a row stands for a whole telegram (log entry 11)
and that a telegram's end and the loss of lock at one symbol are one event (log entry 45). -/
def Obligations.SymbolsAreTaken : Prop :=
  ∀ (l : LineNo) (code : Code5) (s : State), s.dev.inReset = false →
    let L := s.line l
    let sym := symbolOf (pairCode L.polarity code)
    let becomes := fun (M : Line) => endsIn (.symbolReceived l code) s (s.setLine l M)
    (L.lock = .acquire → endsIn (.symbolReceived l code) s s) ∧
    (L.lock = .locked → L.silence + 1 < 2048 →
      (∀ t n, L.sender = .sending t (.leadIn n) → 1 < n →
        becomes { L with sender := .sending t (.leadIn (n - 1)), silence := L.silence + 1 }) ∧
      (∀ t, L.sender = .sending t (.leadIn 1) → becomes { L with sender := .sending t .body, silence := L.silence + 1 }) ∧
      ((∃ t, L.sender = .sending t .body ∨ L.sender = .sending t .tail) ∨ L.sender = .aborting →
        becomes { L with silence := L.silence + 1 }) ∧
      (L.driving = false → L.receiver = .outside →
        (sym = .fill → becomes { L with silence := 0 }) ∧
        (sym = .open → becomes { L with
          receiver := .inside [], silence := L.silence + 1, exchange := L.waitIn .receiving
          transfer := L.transferIn .receiving }) ∧
        (sym ≠ .fill → sym ≠ .open → becomes { L with silence := L.silence + 1 })) ∧
      (∀ nibbles, L.driving = false → L.receiver = .inside nibbles →
        let ends := fun c => exec (.symbolReceived l code) s = exec c (s.setLine l { L with silence := L.silence + 1 })
        let kind := fun (k : Nibble) => nibbles.head? = some k
        (sym = .fill → exec (.symbolReceived l code) s = exec (.badTelegram l .fillInside) s) ∧
        (sym = .open → ends (.badTelegram l .openInside)) ∧ (sym = .abort → ends (.badTelegram l .abortInside)) ∧
        (sym = .invalid → ends (.badTelegram l .invalidCode)) ∧
        (sym = .shut → nibbles.length = 0 ∨ nibbles.length % 2 = 1 → ends (.badTelegram l .badLength)) ∧
        (sym = .shut → nibbles.length ≠ 0 → nibbles.length % 2 = 0 →
          (kind 2 ∧ nibbles.length / 2 ≠ L.settings.replyLength ∨ kind 5 ∧ nibbles.length / 2 ≠ 9 ∨
            kind 4 ∧ (nibbles.length / 2 < 3 ∨ 27 < nibbles.length / 2)) → ends (.badTelegram l .badLength)) ∧
        (sym = .shut → ∀ seq payload, payload.length ≤ 24 →
          nibbles = nibblesOf (checkedTelegram 4 seq payload) → ends (.serviceReply l seq payload)) ∧
        (sym = .shut → ∀ seq (w0 w1 w2 w3 : Word16),
          nibbles = nibblesOf (((5 : Nibble) ++ seq : Byte) :: (wordBytes w0 ++ wordBytes w1 ++ wordBytes w2 ++ wordBytes w3)) →
          ends (.beacon l seq w0 w1 w2 w3)) ∧
        (∀ n, sym = .data n → nibbles = [] → n ≠ 2 → n ≠ 4 → n ≠ 5 → ends (.badTelegram l .badKind)) ∧
        (∀ n e, sym = .data n →
          (kind 2 ∧ e = L.settings.replyLength ∨ kind 4 ∧ e = 27 ∨ kind 5 ∧ e = 9) →
          2 * e + 2 ≤ nibbles.length + 1 → ends (.badTelegram l .overrun)) ∧
        ∀ n e, sym = .data n →
          ((nibbles ++ [n]).head? = some 2 ∧ e = L.settings.replyLength ∨ (nibbles ++ [n]).head? = some 4 ∧ e = 27 ∨
            (nibbles ++ [n]).head? = some 5 ∧ e = 9) →
          nibbles.length + 1 < 2 * e + 2 →
          becomes { L with receiver := .inside (nibbles ++ [n]), silence := L.silence + 1 }) ∧
      (L.driving = false → L.receiver = .abandoning →
        let strays := becomes { L with receiver := .outside, silence := L.silence + 1 }.startWaiting
        (sym = .data 4 → strays) ∧ (sym = .abort ∨ sym = .invalid ∨ sym = .shut → strays) ∧
        (sym = .fill → becomes { L with receiver := .outside, silence := 0 }.startWaiting) ∧
        (sym = .open → becomes { L with receiver := .inside [], silence := L.silence + 1 }) ∧
        (∀ n, sym = .data n → n = 2 ∨ n = 5 →
          becomes { L with receiver := .inside [n], silence := L.silence + 1 }) ∧
        ∀ n, sym = .data n → n ≠ 2 → n ≠ 4 → n ≠ 5 →
          exec (.symbolReceived l code) s
            = exec (.badTelegram l .badKind) (s.setLine l { L with silence := L.silence + 1 }))) ∧
    (L.lock = .locked → 2048 ≤ L.silence + 1 →
      let loses := fun (M : Line) =>
        exec (.symbolReceived l code) s = exec (.lockLoss l) (s.setLine l { M with silence := 2048 })
      (∀ t n, L.sender = .sending t (.leadIn n) → 1 < n → loses { L with sender := .sending t (.leadIn (n - 1)) }) ∧
      (∀ t, L.sender = .sending t (.leadIn 1) → loses { L with sender := .sending t .body }) ∧
      ((∃ t, L.sender = .sending t .body ∨ L.sender = .sending t .tail) ∨ L.sender = .aborting → loses L) ∧
      (L.driving = false → L.receiver = .outside →
        (sym = .fill → becomes { L with silence := 0 }) ∧
        (sym = .open → loses { L with
          receiver := .inside [], exchange := L.waitIn .receiving, transfer := L.transferIn .receiving }) ∧
        (sym ≠ .fill → sym ≠ .open → loses L)) ∧
      (∀ nibbles, L.driving = false → L.receiver = .inside nibbles →
        (sym = .fill → exec (.symbolReceived l code) s = exec (.badTelegram l .fillInside) s) ∧
        ∀ n e, sym = .data n →
          ((nibbles ++ [n]).head? = some 2 ∧ e = L.settings.replyLength ∨ (nibbles ++ [n]).head? = some 4 ∧ e = 27 ∨
            (nibbles ++ [n]).head? = some 5 ∧ e = 9) →
          nibbles.length + 1 < 2 * e + 2 → loses { L with receiver := .inside (nibbles ++ [n]) }) ∧
      (L.driving = true ∨ sym ≠ .fill → ∃ t, exec (.symbolReceived l code) s = .next t ∧
        (t.line l).lock = .acquire ∧ (t.line l).state = .acquire ∧ (t.line l).silence = 0 ∧ (t.line l).receiver = .outside))

/-- A station's REPLY, from its OPEN to its SHUT, received symbol by symbol on a line that waits outside a telegram, does
exactly what the REPLY command does: no bit of the telegram is dropped and its check word is taken (R95, R99, R101, R102,
R104). The silence count goes up by one for each of its symbols (R100). That the REPLY row stands for the whole telegram is
the model's choice (log entry 11). -/
def Obligations.TelegramsAreReceivedWhole : Prop :=
  ∀ (l : LineNo) (seq : Nibble) (body : List Byte) (s : State), s.dev.inReset = false → s.choose = s → LineInv s →
    let L := s.line l
    let symbols := telegramSymbols l L.polarity (checkedTelegram 2 seq body)
    L.lock = .locked → L.driving = false → L.receiver = .outside → body.length + 3 = L.settings.replyLength →
    L.silence + symbols.length < 2048 →
    runAll symbols s = exec (.reply l seq body) (s.setLine l { L with silence := L.silence + symbols.length })

/-! ### Samples, scaling and pins -/

/-- A sample of a DI, an AI or a DO, by the rules of its kind: the filter, the settle count, the fault flag and the readback table
(R5, R7, R9, R10, R12); a DI whose samples agree for its depth takes their value and is GOOD. That a DO with count 2 that has become
STALE is BAD at its next differing readback is the model's choice (log entry 35). -/
def Obligations.SamplesQualify : Prop :=
  (∀ (r : Point) (f : DiFields) (v : Bool),
    let run := if f.candidate = some v then min (f.run + 1) f.depth else 1
    let confirmed := decide (run = f.depth) || r.confirmed
    sampleDi r f v = { r with
      confirmed := confirmed, quality := if confirmed then .good else .settling
      body := .di { f with
        candidate := some v, run := run, qualified := if run = f.depth then v else f.qualified } }) ∧
  (∀ (r : Point) (f : DiFields) (v : Bool) (n : Nat), r.body = .di f → 1 ≤ f.depth → f.run ≤ f.depth → f.depth ≤ n →
    ∃ g, ((fun (x : Point) => match x.body with | .di h => sampleDi x h v | _ => x)^[n] r)
      = { r with confirmed := true, quality := .good, body := .di g } ∧ g.qualified = v ∧ g.run = f.depth) ∧
  (∀ (r : Point) (f : AiFields) (w : Word16), r.body = .ai f → w.getLsbD 15 = true →
    sampleAi r f w = { r with quality := .bad, confirmed := false, body := .ai { f with validRun := 0 } }) ∧
  (∀ (r : Point) (f : AiFields) (w : Word16), w.getLsbD 15 = false →
    let run := min (f.validRun + 1) f.settle
    let confirmed := decide (run = f.settle) || r.confirmed
    ∃ a, sampleAi r f w = { r with
      confirmed := confirmed, quality := if confirmed then .good else .settling
      body := .ai { f with validRun := run, analog := a } }) ∧
  ∀ (r : Point) (f : DoFields) (v : Bool), f.mismatch ≤ 2 →
    (v = f.lastSent → sampleDo r f v = { r with
      confirmed := true, quality := .good, body := .dout { f with mismatch := 0 } }) ∧
    (v ≠ f.lastSent → f.mismatch = 0 → sampleDo r f v = { r with
      quality := if r.confirmed then .good else .settling, body := .dout { f with mismatch := 1 } }) ∧
    (v ≠ f.lastSent → f.mismatch ≠ 0 → sampleDo r f v = { r with
      confirmed := false, quality := .bad, body := .dout { f with mismatch := 2 } })

/-- The scaling of an AI sample in its four steps, with their bounds: the offset difference, the product, the quotient rounded to
the nearest with halves away from zero, the offset, and then the clamp with its range flag (R29 to R32). A derived point takes
its sources' presented values through the same clamp, and the worse of their qualities (R38, R39). -/
def Obligations.SamplesAreScaled : Prop :=
  (∀ (r : Point) (f : AiFields) (w : Word16), f.zero ≤ 4095 → -32768 ≤ f.gain → f.gain ≤ 32767 → -32768 ≤ f.offset →
    f.offset ≤ 32767 → f.analog.lo < f.analog.hi → w.getLsbD 15 = false →
    ∃ d p q v : Int, ∃ g : AiFields, (sampleAi r f w).body = .ai g ∧
      d = (w.toNat % 4096 : Nat) - (f.zero : Int) ∧ -4095 ≤ d ∧ d ≤ 4095 ∧
      p = d * f.gain ∧ p.natAbs ≤ 134184960 ∧
      q.natAbs = (p.natAbs + 128) / 256 ∧ (0 ≤ p → 0 ≤ q) ∧ (p ≤ 0 → q ≤ 0) ∧ q.natAbs ≤ 524160 ∧
      2 * (256 * q - p).natAbs ≤ 256 ∧
      v = q + f.offset ∧ -556928 ≤ v ∧ v ≤ 556927 ∧
      (v < f.analog.lo → g.analog.value = f.analog.lo ∧ g.analog.range = .under) ∧
      (f.analog.hi < v → g.analog.value = f.analog.hi ∧ g.analog.range = .over) ∧
      (f.analog.lo ≤ v → v ≤ f.analog.hi → g.analog.value = v ∧ g.analog.range = .none) ∧
      f.analog.lo ≤ g.analog.value ∧ g.analog.value ≤ f.analog.hi) ∧
  ∀ (s : State) (r a b : Point) (f : DerivedFields), s.point? f.sourceA = some a → s.point? f.sourceB = some b →
    let v := match f.kind with
      | .sum => s.presented f.sourceA a + s.presented f.sourceB b
      | .diff => s.presented f.sourceA a - s.presented f.sourceB b
    let rank := fun (x : Point) => if x.forced then 0 else x.quality.rank
    ∃ g : DerivedFields, (s.derive r f).body = .derived g ∧ (s.derive r f).quality.rank = max (rank a) (rank b) ∧
      (v < f.analog.lo → g.analog.value = f.analog.lo ∧ g.analog.range = .under) ∧
      (f.analog.lo ≤ v → f.analog.hi < v → g.analog.value = f.analog.hi ∧ g.analog.range = .over) ∧
      (f.analog.lo ≤ v → v ≤ f.analog.hi → g.analog.value = v ∧ g.analog.range = .none)

/-- At each pin sample the 16 levels are taken, the timer runs again, each TROLLEY DI on an IN pin takes its level and each
TROLLEY DO on an OUT pin its readback against the level the pin drives; nothing else changes but what those samples' notices
and hand-ons touch. The sample never comes with its timer stopped (R11, R22). That a sample with the timer stopped changes
nothing is the model's choice (log entry 4). -/
def Obligations.PinsAreSampled : Prop :=
  ∀ (levels : Word16) (s : State), s.dev.inReset = false → TablesInv s →
    (s.pins.timer = none → endsIn (.pinSample levels) s s) ∧
    (s.pins.timer ≠ none →
      ∃ u, endsIn (.pinSample levels) s u ∧
        Agrees ((s.setPins { s.pins with sampled := levels, timer := some 33 }).mapStation .trolley fun r =>
          match r.body, s.pinDrive r.channel with
          | .di f, none => sampleDi r f (levels.getLsbD r.channel)
          | .dout f, some d =>
            sampleDo { r with body := .dout { f with lastSent := d } } { f with lastSent := d } (levels.getLsbD r.channel)
          | _, _ => r) u)

/-! ### The Festoon Port and the Change Queue -/

/-- The check word of R182: the sum S with end-around carry, its complement sent with 0x0000 as 0xFFFF, the two forms a receiver
accepts, and the bytes a frame covers; a frame, a REPLY or a SERVICE REPLY that fails it is discarded. What the sender sends is accepted, and every
change of one covered byte is found. -/
def Obligations.CheckWordsHold : Prop :=
  (∀ bs, checkSum bs ≤ 65535 ∧ checkSum bs % 65535 = (bytePairs bs).sum % 65535 ∧ (checkSum bs = 0 ↔ ∀ b ∈ bs, b = 0)) ∧
  (∀ (a b : Byte) rest, bytePairs [] = [] ∧ bytePairs [a] = [a.toNat * 256] ∧
    bytePairs (a :: b :: rest) = (a.toNat * 256 + b.toNat) :: bytePairs rest) ∧
  (∀ bs, (checkSum bs = 65535 → checkWord bs = 0xFFFF) ∧
    (checkSum bs ≠ 65535 → checkWord bs = BitVec.ofNat 16 (65535 - checkSum bs))) ∧
  (∀ bs c, checkAccepts bs c = true ↔ checkSum bs + c.toNat = 65535 ∨ checkSum bs = 65535 ∧ c = 0xFFFF) ∧
  (∀ bs, checkAccepts bs (checkWord bs) = true) ∧
  (∀ (pre post : List Byte) (a b : Byte), a ≠ b → checkAccepts (pre ++ a :: post) (checkWord (pre ++ b :: post)) = false) ∧
  (∀ (code tag : Byte) (ps : List Byte), ps.length ≤ 198 →
    frameBytes code tag ps = 0xC5 :: ((BitVec.ofNat 8 (ps.length + 2) :: code :: tag :: ps)
      ++ wordBytes (checkWord (BitVec.ofNat 8 (ps.length + 2) :: code :: tag :: ps)))) ∧
  (∀ (s : State) (code tag hi lo : Byte) (ps : List Byte) (g : Nat) (pb : Bool), s.dev.inReset = false →
    let covered := BitVec.ofNat 8 (ps.length + 2) :: code :: tag :: ps
    ps.length ≤ 198 → s.port.framer = .inside (covered ++ [hi]) g → checkAccepts covered (hi ++ lo) = false →
    pb = parityBitOf (parityOf s.dev.parityStrap) lo →
    endsIn (.characterReceived lo pb true) s (s.setPort { s.port with
      framer := .hunt, discards := { s.port.discards with check := min (s.port.discards.check + 1) 65535 } })) ∧
  ∀ (s : State) (l : LineNo) (kind seq : Nibble) (body : List Byte) (hi lo : Byte) (code : Code5), s.dev.inReset = false →
    let L := s.line l
    let covered := (kind ++ seq : Byte) :: body
    L.lock = .locked → L.driving = false → L.silence + 1 < 2048 →
    (kind = 2 ∧ body.length + 3 = L.settings.replyLength ∨ kind = 4 ∧ body.length ≤ 24) →
    L.receiver = .inside ((covered ++ [hi, lo]).flatMap fun b => [b.extractLsb' 4 4, b.extractLsb' 0 4]) →
    checkAccepts covered (hi ++ lo) = false → symbolOf (pairCode L.polarity code) = .shut →
    exec (.symbolReceived l code) s
      = exec (.badTelegram l .badCheck) (s.setLine l { L with silence := L.silence + 1 })

/-- A discarded frame is counted by its cause and leaves the framer in HUNT, whether the discard is given as a command or
found at a character or a gap; in HUNT nothing but a good 0xC5 has an effect (R160 to R162). That a gap is given as idle bit
times and a discard as a command are the model's choices (log entries 20, 22, 23), and so is that a bad character is counted FRAMING
alone, whatever else its value would show (log entry 38). -/
def Obligations.FramesAreDiscarded : Prop :=
  ∀ (s : State), s.dev.inReset = false →
    let discarded := fun (d : Discards) => s.setPort { s.port with framer := .hunt, discards := d }
    let framing := discarded { s.port.discards with framing := min (s.port.discards.framing + 1) 65535 }
    let length := discarded { s.port.discards with length := min (s.port.discards.length + 1) 65535 }
    let check := discarded { s.port.discards with check := min (s.port.discards.check + 1) 65535 }
    let gap := discarded { s.port.discards with gap := min (s.port.discards.gap + 1) 65535 }
    let parity := parityOf s.dev.parityStrap
    let bad := fun (v : Byte) (pb stop : Bool) => stop = false ∨
      parity = .even ∧ pb ≠ decide (((List.range 8).countP fun k => v.getLsbD k) % 2 = 1) ∨
      parity = .odd ∧ pb ≠ decide (((List.range 8).countP fun k => v.getLsbD k) % 2 = 0)
    endsIn (.frameDiscard .framing) s framing ∧ endsIn (.frameDiscard .length) s length ∧
    endsIn (.frameDiscard .check) s check ∧
    (s.port.framer = .hunt →
      (∀ n, endsIn (.gap n) s s) ∧
      (∀ v pb stop, v ≠ 0xC5 ∨ bad v pb stop → endsIn (.characterReceived v pb stop) s s) ∧
      ∀ pb stop, ¬ bad 0xC5 pb stop →
        endsIn (.characterReceived 0xC5 pb stop) s (s.setPort { s.port with framer := .inside [] 0 })) ∧
    (∀ bytes g, s.port.framer = .inside bytes g →
      (∀ n, let limit := if parity = .none then 30 else 33
        (limit < g + n → endsIn (.gap n) s gap) ∧
        (g + n ≤ limit → endsIn (.gap n) s (s.setPort { s.port with framer := .inside bytes (g + n) }))) ∧
      (∀ v pb stop, bad v pb stop → endsIn (.characterReceived v pb stop) s framing) ∧
      (∀ v pb stop, ¬ bad v pb stop →
        (bytes = [] → v.toNat < 2 ∨ 200 < v.toNat → endsIn (.characterReceived v pb stop) s length) ∧
        (∀ code tag c params, bytes = byteOf (params.length + 2) :: code :: tag :: params ++ [c] → params.length ≤ 198 →
          checkAccepts (byteOf (params.length + 2) :: code :: tag :: params) (c ++ v) = false →
          endsIn (.characterReceived v pb stop) s check)))

/-- A whole frame received character by character from HUNT does exactly what its request's command does, for every code, tag and
parameters the festoon can carry (R160, R161, R163, R182). That the row stands for the whole frame, and that the characters run the
framer to the taking of the request, are the model's choices (log entries 22, 23). -/
def Obligations.FramesAreReceivedWhole : Prop :=
  ∀ (code tag : Byte) (ps : List Byte) (s : State), s.dev.inReset = false → s.port.framer = .hunt → s.choose = s →
    ps.length ≤ 198 →
    runAll (charactersOf (parityOf s.dev.parityStrap) (frameBytes code tag ps)) s = exec (requestOf code tag ps) s

/-- ECHO of 0 to 197 bytes is answered OK with the bytes in the order received, does no other work, restarts the silence monitor,
and is refused with more; its reply's L is 3 plus the number of bytes. -/
def Obligations.EchoesParameters : Prop :=
  ∀ (tag : Byte) (ps : List Byte) (s : State), Takes s →
    (ps.length ≤ 197 → exec (.echo tag ps) s = onlyAnswers s 0x01 tag .ok ps ∧
      ((⟨0x81, tag, .ok, ps⟩ : Reply).bytes)[1]? = some (BitVec.ofNat 8 (3 + ps.length)) ∧ 3 + ps.length ≤ 200) ∧
    (197 < ps.length → exec (.echo tag ps) s = onlyAnswers s 0x01 tag .badLength []) ∧
    (s.dev.mode = .run → s.dev.silenceLimit ≠ 0 →
      (taken s).dev.silenceTimer = some ((s.dev.silenceLimit * 32768 + 999) / 1000))

/-- RESET closes the port, ends the transfers in flight CLOSED line by line, each line's SERVICE telegram cut, its reply abandoned and
its reply timer stopped (with only an OPEN taken, the model's choice of log entry 36), and puts its own reply behind every reply
before it (R89, R91, R106, R170). -/
def Obligations.ResetRequestsCloseThePort : Prop :=
  ∀ (tag : Byte) (s : State), Takes s → PortInv s →
    ∃ u, endsIn (.reset tag []) s u ∧ u = (taken s).besidesLines u ∧ u.port.closed = true ∧
      { u.port with
        replies := s.port.replies, waiting := s.port.waiting, heldReset := s.port.heldReset, closed := s.port.closed
        framer := s.port.framer } = s.port ∧
      outbound u ++ u.port.heldReset.toList
        = outbound s ++ allLines.flatMap (closedReplies s) ++ [⟨0x83, tag, .ok, []⟩] ∧
      ∀ l, (∀ t, (u.line l).transfer = some t → t.inFlight = false) ∧
        u.line l = { (s.line l).closing with transfer := (u.line l).transfer } ∧
        (closedReplies s l = [] → u.line l = s.line l)

/-- SET REPORTING takes the four enables; a class turned off loses its marks, then its records leave in queue order, each departure
admitting the first entity still marked, and the other records stay in order; the classes are handled in the order LINE, INTERLOCK,
DEVICE. With no class turned off nothing else changes (R152 to R155). With several turned off, that a record admitted in one class's
pass leaves in its own class's pass is the model's choice (log entry 39). -/
def Obligations.SetsReporting : Prop :=
  ∀ (tag : Byte) (report line interlock device : Bool) (s : State), Takes s → TablesInv s → QueueInv s →
    let ps := [flagByte report, flagByte line, flagByte interlock, flagByte device]
    let v := { (taken s).setPort { (taken s).port with reportEnable := report } with classes := ⟨line, interlock, device⟩ }
    ∃ u, repliesWith (.setReporting tag ps) s 0x40 tag .ok ps u ∧ AgreesButQueue v u ∧
      (s.classes.line = true → line = false → ∀ l, u.hasRecord (.line l) = false ∧ Key.line l ∉ u.markedKeys) ∧
      (s.classes.interlock = true → interlock = false →
        ∀ i, u.hasRecord (.interlock i) = false ∧ Key.interlock i ∉ u.markedKeys) ∧
      (s.classes.device = true → device = false → u.hasRecord .device = false ∧ Key.device ∉ u.markedKeys) ∧
      ((s.classes.line = true → line = true) → (s.classes.interlock = true → interlock = true) →
        (s.classes.device = true → device = true) → u = v) ∧
      ∃ a b,
        (if s.classes.line = true ∧ line = false then forgets v a Key.isLine else a = v) ∧
        (if s.classes.interlock = true ∧ interlock = false then forgets a b Key.isInterlock else b = a) ∧
        (if s.classes.device = true ∧ device = false then forgets b u Key.isDevice else u = b)

/-- READ CHANGES answers the head records, up to 8, as they stood, and removes them; each departure admits the first marked
entity, with its state, a fold count equal to its pending count and this event's tick, and clears its mark; an admitted point's last
recorded value is the one its record carries. With any parameters it is refused. A record is 14 bytes: entity kind, index, fold
count, timestamp, and 7 bytes of payload by its kind (R35, R152, R157, R184). -/
def Obligations.ReadsChanges : Prop :=
  (∀ (tag : Byte) (ps : List Byte) (s : State), Takes s → ps ≠ [] →
    exec (.readChanges tag ps) s = onlyAnswers s 0x41 tag .badLength []) ∧
  (∀ r : Record, r.bytes.length = 14 ∧ r.bytes =
    (match r.key with
      | .device => [0, 0]
      | .line l => [1, lineCode l]
      | .interlock i => [2, byteOf i.val]
      | .point p => [3, idByte p])
    ++ [byteOf r.fold, r.time.extractLsb' 24 8, r.time.extractLsb' 16 8, r.time.extractLsb' 8 8, r.time.extractLsb' 0 8] ++
    (match r.payload with
      | .device mode cause action => [mode.code, cause.code, action.code, 0, 0, 0, 0]
      | .line state rate polarity none n => [state.code, rateCode rate, polarityCode polarity, 0, 0, 0, byteOf n]
      | .line state rate polarity (some i) n => [state.code, rateCode rate, polarityCode polarity, 1, i.type, i.serial, byteOf n]
      | .interlock state .none => [state.code, 0, 0, 0, 0, 0, 0]
      | .interlock state (.failing t) => [state.code, 1, byteOf t, 0, 0, 0, 0]
      | .interlock state (.unusable t) => [state.code, 2, byteOf t, 0, 0, 0, 0]
      | .point quality forced range v => [quality.code, flagByte forced, range.code] ++ intBytes v ++ [0, 0])) ∧
  ∀ (tag : Byte) (s : State), Takes s → TablesInv s →
    (s.queue = [] → QueueInv s → exec (.readChanges tag []) s = onlyAnswers s 0x41 tag .ok [0]) ∧
    let k := min 8 s.queue.length
    ∃ u, repliesWith (.readChanges tag []) s 0x41 tag .ok (byteOf k :: (s.queue.take 8).flatMap Record.bytes) u ∧
      departs (taken s) u (fun _ => false) (s.queue.drop 8) k

/-- Which changes raise a notice, and how it is taken. A point's new record, of the old one's kind, raises its notice exactly where
R23 says: a change of quality or forced flag, of an unforced DI's qualified value, of a DO's effective value, of an unforced analog
point's range flag, or of its value past the deadband of R34; the notice stamps the last change timestamp, and no other change does.
An entry's raises it on a change of state or cause (R56), a line's on a change of a reported field (R146); one event raises at most
one for each entity. A FORCE, a RELEASE and a station restart raise theirs directly, whether or not such a field changes (R75, R76,
R141), as ForcesPoints, ReleasesPoints and BeaconsAreHandled state. A notice of an entity that may report folds into its record in
place, or appends a record where there is room, or marks the entity pending; a point's last recorded value takes what its record
carries. A notice of one that may not report is not taken. At the end of the event the record of each entity that raised its notice
follows it to its final state, in its place and with no further fold (R33 to R36, R148 to R151). -/
def Obligations.NoticesAreTaken : Prop :=
  (∀ (w : Work) (p : PointId) (old new : Point), TablesInv w.st → old.body.sameKind new.body = true →
    let v := w.storePoint p old new
    let raises : Prop := old.quality ≠ new.quality ∨ old.forced ≠ new.forced ∨
      match old.body, new.body with
      | .di f, .di g => new.forced = false ∧ f.qualified ≠ g.qualified
      | .dout f, .dout g => f.effective ≠ g.effective
      | .ai f, .ai g => new.forced = false ∧ (f.analog.range ≠ g.analog.range ∨ f.analog.movesTo g.analog.value)
      | .derived f, .derived g => new.forced = false ∧ (f.analog.range ≠ g.analog.range ∨ f.analog.movesTo g.analog.value)
      | _, _ => False
    (¬ raises → v.raised = w.raised ∧ v.st = w.st.setPoint p new) ∧
    (raises → ∃ r : Point, r.setRecorded 0 = new.setRecorded 0 ∧
      (∀ a b, old.analog? = some a → new.analog? = some b →
        (r.analog?.map Analog.lastRecorded) = some (
          if new.report = false ∧ new.forced = false ∧ a.movesTo b.value then b.value else b.lastRecorded)) ∧
      (Key.point p ∈ w.raised → v.raised = w.raised ∧ v.st = w.st.setPoint p r) ∧
      (Key.point p ∉ w.raised → v.raised = w.raised ++ [.point p] ∧
        v.st = (w.st.setPoint p { r with lastChange := w.st.dev.tick }).takeNotice (.point p)))) ∧
  (∀ (w : Work) (i : EntryIx) (old new : Entry), let v := w.storeEntry i old new
    (old.state = new.state ∧ old.cause = new.cause ∨ Key.interlock i ∈ w.raised →
      v.raised = w.raised ∧ v.st = w.st.setEntry i new) ∧
    (old.state ≠ new.state ∨ old.cause ≠ new.cause → Key.interlock i ∉ w.raised →
      v.raised = w.raised ++ [.interlock i] ∧ v.st = (w.st.setEntry i new).takeNotice (.interlock i))) ∧
  (∀ (w : Work) (l : LineNo) (M : Line), let L := w.st.line l; let v := w.putLine l M
    let raises : Prop := L.state ≠ M.state ∨ L.lockedRate ≠ M.lockedRate ∨ L.polarity ≠ M.polarity ∨
      L.lastAttached ≠ M.lastAttached ∨ L.restartCount ≠ M.restartCount
    (¬ raises ∨ Key.line l ∈ w.raised → v.raised = w.raised ∧ v.st = w.st.setLine l M) ∧
    (raises → Key.line l ∉ w.raised →
      v.raised = w.raised ++ [.line l] ∧ v.st = (w.st.setLine l M).takeNotice (.line l))) ∧
  (∀ (s : State) (f : Work → Work), let w := f ⟨s, []⟩; let u := s.event f
    TablesInv w.st →
      AgreesButQueue w.st u ∧ u.markedKeys = w.st.markedKeys ∧
      u.queue = w.st.queue.map (fun r =>
        if r.key ∈ w.raised then { r with payload := (w.st.payload r.key).getD r.payload } else r) ∧
      (∀ p x a, Key.point p ∈ w.raised → w.st.hasRecord (.point p) = true → u.point? p = some x → x.analog? = some a →
        a.lastRecorded = w.st.presented p x) ∧
      ∀ p, Key.point p ∉ w.raised → u.point? p = w.st.point? p) ∧
  ∀ (k : Key) (s : State), TablesInv s →
    let u := s.takeNotice k
    (s.mayReport k = false → u = s) ∧
    ∀ pl, s.mayReport k = true → s.payload k = some pl →
      (s.hasRecord k = true → AgreesButQueue s u ∧ u.markedKeys = s.markedKeys ∧
        u.queue = s.queue.map fun r =>
          if r.key = k then ⟨k, pl, min (r.fold + 1) 255, s.dev.tick⟩ else r) ∧
      (s.hasRecord k = false → s.queue.length < 64 →
        AgreesButQueue s u ∧ u.markedKeys = s.markedKeys ∧ u.queue = s.queue ++ [⟨k, pl, 1, s.dev.tick⟩]) ∧
      (s.hasRecord k = true ∨ s.queue.length < 64 → ∀ p r r' a, k = .point p → s.point? p = some r → u.point? p = some r' →
        r'.analog? = some a → a.lastRecorded = s.presented p r) ∧
      (s.hasRecord k = false → 64 ≤ s.queue.length →
        AgreesButQueue s u ∧ u.queue = s.queue ∧
          u.pendingOf k = if (s.pendingOf k).marked then ⟨true, min ((s.pendingOf k).count + 1) 255⟩ else ⟨true, 1⟩)

/-- REPORT HOLD loads its timer, or stops it with a time of 0, and its expiry ends the hold (R167). That the expiry ends the
hold whatever ticks are left is the model's choice (log entry 3). -/
def Obligations.HoldsReports : Prop :=
  ∀ (tag : Byte) (time : Word16) (s : State), s.dev.inReset = false →
    (Takes s → repliesWith (.reportHold tag (wordBytes time)) s 0x42 tag .ok (wordBytes time)
      ((taken s).setPort { (taken s).port with
        reportHold := if time = 0 then none else some ((time.toNat * 32768 + 999) / 1000) })) ∧
    endsIn .reportHoldExpiry s (s.setPort { s.port with reportHold := none })

/-- The transmitter: IDLE it sends the head reply first, a waiting reply taking the freed place, then a REPORT frame of the
head records, whose departures admit as those of READ CHANGES do, else it stays IDLE; sending, it chooses nothing. The last byte of a frame makes it IDLE, and that of the RESET
reply brings the command reset. REPLY_TRANSMIT, REPORT_FRAME and WAITING_REPLY_QUEUED do their part of that choice (R165,
R166, R170; DEDUCED, log entries 7 and 15). A FRAME_TRANSMITTED with no frame in transmission changes nothing (log entry 4).
-/
def Obligations.TransmitterChooses : Prop :=
  ∀ (s : State), s.dev.inReset = false →
    (s.port.transmitter = .idle →
      (∀ r rest, s.port.replies = r :: rest → rest.length < 4 →
        ∃ u, takesRoom (s.setPort { s.port with transmitter := .reply r, replies := rest }) u ∧ s.choose = u ∧
          exec .replyTransmit s = .next u) ∧
      (s.port.replies = [] → s.port.reportEnable = true → s.port.reportHold = none → s.queue ≠ [] →
        let v := s.setPort { s.port with transmitter := .report (s.queue.take 8) }
        s.choose = v.drainHead ∧ exec .reportFrame s = .next v.drainHead ∧
          (TablesInv s → departs v v.drainHead (fun _ => false) (s.queue.drop 8) (min 8 s.queue.length))) ∧
      (s.port.replies = [] → s.port.reportEnable = false ∨ s.port.reportHold ≠ none ∨ s.queue = [] →
        s.choose = s ∧ exec .replyTransmit s = .next s ∧ exec .reportFrame s = .next s) ∧
      endsIn .frameTransmitted s s) ∧
    (s.port.transmitter ≠ .idle → s.choose = s) ∧
    (s.port.replies.length < 4 → ∃ u, takesRoom s u ∧ endsIn .waitingReplyQueued s u) ∧
    (4 ≤ s.port.replies.length → endsIn .waitingReplyQueued s s) ∧
    (∀ r, s.port.transmitter = .reply r → r.code ≠ 0x83 ∨ r.status ≠ .ok →
      endsIn .frameTransmitted s (s.setPort { s.port with transmitter := .idle })) ∧
    (∀ rs, s.port.transmitter = .report rs →
      endsIn .frameTransmitted s (s.setPort { s.port with transmitter := .idle })) ∧
    ∀ tag data, s.port.transmitter = .reply ⟨0x83, tag, .ok, data⟩ → exec .frameTransmitted s = exec .commandReset s

/-! ### Modes -/

/-- START in CONFIG: with every check passed every point is UNSEEN with its qualification cleared and its command at the fail
value, every entry BLOCKED and UNKNOWN, the enabled lines hunt, the pin sample timer and the silence monitor run, the mode is RUN,
and the queue holds the DEVICE record alone. With a check failed nothing changes, and the reply names the item, the reason and
the term of the first failing check (R18, R42, R57, R70, R110, R159, R173, R174). The order of an entry's term checks is DEDUCED
(log entry 14). -/
def Obligations.StartsRun : Prop :=
  ∀ (tag : Byte) (s : State), Takes s → s.dev.mode = .config → Safe s →
    (¬ StartFits s → ∃ kind index reason term, startFault s kind index reason term ∧ exec (.start tag []) s
      = onlyAnswers s 0x04 tag .conflict [byteOf kind, byteOf index, byteOf reason, byteOf term]) ∧
    (StartFits s →
      let limit := s.dev.silenceLimit
      ∃ u, repliesWith (.start tag []) s 0x04 tag .ok [] u ∧
        Agrees (({ taken s with
          dev := { s.dev with
            mode := .run, silenceTimer := if limit = 0 then none else some ((limit * 32768 + 999) / 1000) }
          pins := { s.pins with timer := some 33 }
          lines := ⟨s.lines.line0.started, s.lines.line1.started, s.lines.line2.started⟩ }).mapPoints Point.started) u ∧
        (∀ p r, u.point? p = some r → r.quality = .unseen) ∧ GateInv u ∧
        (∀ e ∈ u.entries, e.2.state = .blocked ∧ e.2.cause = .unusable 0 ∧ e.2.timer = none ∧
          ∀ t ∈ e.2.terms, t.latch = .latchUnknown) ∧
        u.markedKeys = [] ∧
        u.queue = if s.classes.device then
          [⟨.device, .device .run s.dev.lastCause s.dev.safeAction, 1, s.dev.tick⟩] else [])

/-- STOP: in CONFIG it is answered OK with no change; in RUN and SAFE it leaves the lines OFF, the forces released, the
remote points LOST, the derived points recomputed and LOST (R42), the entries BLOCKED and UNKNOWN, and every output at its fail
value, with transfers in flight answered CLOSED before its own reply (R175). The order of the outputs and the cause left to the entries are DEDUCED (log entry 17). -/
def Obligations.StopsRun : Prop :=
  ∀ (tag : Byte) (s : State), Takes s →
    (s.dev.mode = .config → exec (.stop tag []) s = onlyAnswers s 0x05 tag .ok []) ∧
    (s.dev.mode ≠ .config → Safe s →
      ∃ u, repliesLast (.stop tag []) s 0x05 tag .ok u ∧ stopped (taken s) u)

/-- ENTER SAFE in RUN and the silence monitor's expiry bring SAFE with their cause: windows closed, forces released, outputs
dropped or held by the safe action. In SAFE an ENTER SAFE is answered OK with no change, and outside RUN no expiry occurs
(R60, R89, R176, R179). That an expiry outside RUN changes nothing is the model's choice (log entry 4), and so is what becomes of a
closed transfer's telegram of which only the OPEN has been taken (log entry 36). -/
def Obligations.EntersSafe : Prop :=
  ∀ (tag : Byte) (s : State), s.dev.inReset = false → Safe s →
    (s.dev.mode = .run →
      (Takes s → ∃ u, repliesLast (.enterSafe tag []) s 0x06 tag .ok u ∧ safeEntered (taken s) .request u) ∧
      (s.dev.silenceTimer ≠ none → ∃ u, endsIn .silenceExpiry s u ∧ safeEntered s .silence u)) ∧
    (Takes s → s.dev.mode = .safe → exec (.enterSafe tag []) s = onlyAnswers s 0x06 tag .ok []) ∧
    (s.dev.mode ≠ .run → endsIn .silenceExpiry s s)

/-- RESUME in SAFE brings RUN: held values are discarded, every output follows R59 under RUN, and the silence monitor starts
afresh; the last SAFE cause is kept (R177). -/
def Obligations.ResumesRun : Prop :=
  ∀ (tag : Byte) (s : State), Takes s → s.dev.mode = .safe → Safe s →
    let limit := s.dev.silenceLimit
    ∃ u, repliesWith (.resume tag []) s 0x07 tag .ok [] u ∧
      Agrees (({ taken s with dev := { s.dev with
        mode := .run, silenceTimer := if limit = 0 then none else some ((limit * 32768 + 999) / 1000) } }).mapPoints
        fun r => match r.body with
          | .dout f => { r with body := .dout { f with held := none } }
          | _ => r) u ∧
      GateInv u

/-- SET MONITOR in CONFIG stores the silence limit, brought into its range, and the safe action; only a change of the action
raises the DEVICE notice. An action that is neither is refused, and so is another length or another mode (R147, R178). -/
def Obligations.SetsMonitor : Prop :=
  ∀ (tag : Byte) (s : State), Takes s → QueueInv s →
    (s.dev.mode ≠ .config → ∀ ps, exec (.setMonitor tag ps) s = onlyAnswers s 0x08 tag .mode []) ∧
    (s.dev.mode = .config → ∀ ps, ps.length ≠ 3 → exec (.setMonitor tag ps) s = onlyAnswers s 0x08 tag .badLength []) ∧
    (s.dev.mode = .config → ∀ (time : Word16) (action : SafeAction),
      let limit := if time = 0 then 0 else max 50 (min time.toNat 5000)
      let v := (taken s).setDev { (taken s).dev with silenceLimit := limit, safeAction := action }
      let u := if action = s.dev.safeAction then v else v.takeNotice .device
      repliesWith (.setMonitor tag (wordBytes time ++ [action.code])) s 0x08 tag .ok (natBytes limit ++ [action.code]) u ∧
        AgreesButQueue v u ∧
        (action ≠ s.dev.safeAction → s.classes.device = true → s.queue.length < 64 →
          ∃ r ∈ u.queue, r.key = .device ∧ r.payload = .device .config s.dev.lastCause action ∧ r.time = s.dev.tick)) ∧
    (s.dev.mode = .config → ∀ (time : Word16) (b : Byte), 2 ≤ b.toNat →
      exec (.setMonitor tag (wordBytes time ++ [b])) s = onlyAnswers s 0x08 tag .badValue [])
end

