-- ==== Sys2Proof/Laws/State.lean ====
section
/-! SUPPORT. What each field reads after each update of the state, by lookup and by field, and the laws of the tables. -/

namespace Sys2Proof.Machine

@[simp] theorem Receiver.taken_outside : Receiver.outside.taken = none := rfl
@[simp] theorem Receiver.taken_inside (nibbles : List Nibble) : (Receiver.inside nibbles).taken = some nibbles := rfl
@[simp] theorem Receiver.taken_abandoning : Receiver.abandoning.taken = some [] := rfl

/-- What is sent bit by bit reads back as the code it was (R95). -/
theorem codeOfBits_codeBits (c : Code5) : codeOfBits (codeBits c) = c := by
  revert c; decide

/-! ### Tables -/

variable {n : Nat} {α β : Type}

@[simp] theorem tableGet_tableSet (k j : Fin n) (v : α) (t : List (Fin n × α)) :
    tableGet j (tableSet k v t) = if j = k then some v else tableGet j t := by
  induction t with
  | nil => simp [tableSet, tableGet]
  | cons e rest ih =>
    obtain ⟨i, w⟩ := e
    by_cases hki : k = i
    · subst hki
      by_cases hj : j = k <;> simp [tableSet, tableGet, hj]
    · by_cases hlt : k < i
      · by_cases hj : j = k <;> simp [tableSet, tableGet, hki, hlt, hj]
      · by_cases hj : j = i
        · have : ¬ j = k := fun h => hki (h ▸ hj)
          subst hj
          simp [tableSet, tableGet, hki, hlt, this]
        · simp [tableSet, tableGet, hki, hlt, hj, ih]

@[simp] theorem tableGet_tableErase (k j : Fin n) (t : List (Fin n × α)) :
    tableGet j (tableErase k t) = if j = k then none else tableGet j t := by
  induction t with
  | nil => simp [tableErase, tableGet]
  | cons e rest ih =>
    obtain ⟨i, w⟩ := e
    unfold tableErase at ih ⊢
    by_cases hik : i = k
    · subst hik
      rw [List.filter_cons_of_neg (by simp), ih]
      by_cases hj : j = i <;> simp [tableGet, hj]
    · rw [List.filter_cons_of_pos (by simpa using hik)]
      by_cases hj : j = i
      · subst hj; simp [tableGet, hik]
      · simpa only [tableGet, if_neg hj] using ih

@[simp] theorem tableGet_map (f : Fin n → α → β) (k : Fin n) (t : List (Fin n × α)) :
    tableGet k (t.map fun e => (e.1, f e.1 e.2)) = (tableGet k t).map (f k) := by
  induction t with
  | nil => rfl
  | cons e rest ih =>
    obtain ⟨i, w⟩ := e
    by_cases h : k = i
    · subst h; simp [tableGet]
    · simpa [tableGet, h] using ih

theorem tableGet_mem {k : Fin n} {v : α} {t : List (Fin n × α)} (h : tableGet k t = some v) : (k, v) ∈ t := by
  induction t with
  | nil => simp [tableGet] at h
  | cons e rest ih =>
    obtain ⟨i, w⟩ := e
    by_cases hk : k = i
    · subst hk; simp [tableGet] at h; simp [h]
    · simp [tableGet, hk] at h; exact List.mem_cons_of_mem _ (ih h)

theorem tableGet_of_mem {k : Fin n} {v : α} {t : List (Fin n × α)} (hs : tableSorted t = true) (h : (k, v) ∈ t) :
    tableGet k t = some v := by
  induction t with
  | nil => simp at h
  | cons e rest ih =>
    obtain ⟨i, w⟩ := e
    simp only [tableSorted, List.map_cons, List.pairwise_cons, decide_eq_true_eq] at hs ih
    rcases List.mem_cons.1 h with h | h
    · cases h; simp [tableGet]
    · have hlt : i < k := hs.1 k (List.mem_map.2 ⟨(k, v), h, rfl⟩)
      simp [tableGet, (ne_of_gt hlt), ih hs.2 h]

theorem tableSorted_tableSet {k : Fin n} {v : α} {t : List (Fin n × α)} (hs : tableSorted t = true) :
    tableSorted (tableSet k v t) = true := by
  have keys : ∀ (u : List (Fin n × α)) x, x ∈ (tableSet k v u).map Prod.fst → x = k ∨ x ∈ u.map Prod.fst := by
    intro u
    induction u with
    | nil => simp [tableSet]
    | cons e rest ih =>
      obtain ⟨i, w⟩ := e
      intro x hx
      by_cases hki : k = i
      · subst hki; simpa [tableSet] using hx
      · by_cases hlt : k < i
        · simpa [tableSet, hki, hlt] using hx
        · simp only [tableSet, hki, hlt, if_false, List.map_cons, List.mem_cons] at hx ⊢
          rcases hx with hx | hx
          · exact .inr (.inl hx)
          · exact (ih x hx).imp id .inr
  induction t with
  | nil => simp [tableSet, tableSorted]
  | cons e rest ih =>
    obtain ⟨i, w⟩ := e
    simp only [tableSorted, List.map_cons, List.pairwise_cons, decide_eq_true_eq] at hs ih ⊢
    by_cases hki : k = i
    · subst hki; simpa [tableSet] using hs
    · by_cases hlt : k < i
      · simp only [tableSet, hki, hlt, if_false, if_true, List.map_cons, List.pairwise_cons]
        refine ⟨?_, hs⟩
        intro x hx
        rcases List.mem_cons.1 hx with rfl | hx
        · exact hlt
        · exact lt_trans hlt (hs.1 x hx)
      · simp only [tableSet, hki, hlt, if_false, List.map_cons, List.pairwise_cons]
        refine ⟨?_, ih hs.2⟩
        intro x hx
        rcases keys rest x hx with rfl | hx
        · exact lt_of_le_of_ne (not_lt.1 hlt) (Ne.symm hki)
        · exact hs.1 x hx

theorem tableSorted_tableErase {k : Fin n} {t : List (Fin n × α)} (hs : tableSorted t = true) :
    tableSorted (tableErase k t) = true := by
  simp only [tableSorted, decide_eq_true_eq] at hs ⊢
  exact hs.sublist ((List.filter_sublist).map _)

theorem tableSorted_map {f : Fin n → α → β} {t : List (Fin n × α)} :
    tableSorted (t.map fun e => (e.1, f e.1 e.2)) = tableSorted t := by
  simp [tableSorted, List.map_map, Function.comp_def]

/-! ### Lookups after an update -/

@[simp] theorem State.point?_setPoint (s : State) (p q : PointId) (r : Point) :
    (s.setPoint p r).point? q = if q = p then some r else s.point? q := by
  simp [State.point?, State.setPoint]

@[simp] theorem State.entry?_setEntry (s : State) (i j : EntryIx) (e : Entry) :
    (s.setEntry i e).entry? j = if j = i then some e else s.entry? j := by
  simp [State.entry?, State.setEntry]

theorem State.point?_modifyPoint (s : State) (p q : PointId) (f : Point → Point) :
    (s.modifyPoint p f).point? q = if q = p then (s.point? q).map f else s.point? q := by
  unfold State.modifyPoint
  by_cases h : q = p
  · subst h
    cases hr : s.point? q <;> simp [hr]
  · cases hr : s.point? p <;> simp [h]

theorem State.entry?_modifyEntry (s : State) (i j : EntryIx) (f : Entry → Entry) :
    (s.modifyEntry i f).entry? j = if j = i then (s.entry? j).map f else s.entry? j := by
  unfold State.modifyEntry
  by_cases h : j = i
  · subst h
    cases hr : s.entry? j <;> simp [hr]
  · cases hr : s.entry? i <;> simp [h]

@[simp] theorem State.line_setLine (s : State) (l m : LineNo) (L : Line) :
    (s.setLine l L).line m = if m = l then L else s.line m := by
  cases l <;> cases m <;> rfl

@[simp] theorem State.line_setLine_self (s : State) (l : LineNo) (L : Line) : (s.setLine l L).line l = L := by
  simp

@[simp] theorem State.setLine_setLine (s : State) (l : LineNo) (L M : Line) :
    (s.setLine l L).setLine l M = s.setLine l M := by
  cases l <;> rfl

@[simp] theorem State.setLine_line (s : State) (l : LineNo) : s.setLine l (s.line l) = s := by
  cases l <;> rfl

/-! ### Fields after an update -/

@[simp] theorem State.dev_setPoint (s : State) (p : PointId) (x : Point) : (s.setPoint p x).dev = s.dev := rfl
@[simp] theorem State.pins_setPoint (s : State) (p : PointId) (x : Point) : (s.setPoint p x).pins = s.pins := rfl
@[simp] theorem State.forces_setPoint (s : State) (p : PointId) (x : Point) : (s.setPoint p x).forces = s.forces := rfl
@[simp] theorem State.entries_setPoint (s : State) (p : PointId) (x : Point) : (s.setPoint p x).entries = s.entries := rfl
@[simp] theorem State.lines_setPoint (s : State) (p : PointId) (x : Point) : (s.setPoint p x).lines = s.lines := rfl
@[simp] theorem State.queue_setPoint (s : State) (p : PointId) (x : Point) : (s.setPoint p x).queue = s.queue := rfl
@[simp] theorem State.classes_setPoint (s : State) (p : PointId) (x : Point) : (s.setPoint p x).classes = s.classes := rfl
@[simp] theorem State.port_setPoint (s : State) (p : PointId) (x : Point) : (s.setPoint p x).port = s.port := rfl
@[simp] theorem State.pending_setPoint (s : State) (p : PointId) (x : Point) : (s.setPoint p x).pending = s.pending := rfl
@[simp] theorem State.entry?_setPoint (s : State) (p : PointId) (x : Point) (j : EntryIx) : (s.setPoint p x).entry? j = s.entry? j := rfl
@[simp] theorem State.line_setPoint (s : State) (p : PointId) (x : Point) (m : LineNo) : (s.setPoint p x).line m = s.line m := rfl
@[simp] theorem State.dev_setEntry (s : State) (i : EntryIx) (x : Entry) : (s.setEntry i x).dev = s.dev := rfl
@[simp] theorem State.pins_setEntry (s : State) (i : EntryIx) (x : Entry) : (s.setEntry i x).pins = s.pins := rfl
@[simp] theorem State.points_setEntry (s : State) (i : EntryIx) (x : Entry) : (s.setEntry i x).points = s.points := rfl
@[simp] theorem State.forces_setEntry (s : State) (i : EntryIx) (x : Entry) : (s.setEntry i x).forces = s.forces := rfl
@[simp] theorem State.lines_setEntry (s : State) (i : EntryIx) (x : Entry) : (s.setEntry i x).lines = s.lines := rfl
@[simp] theorem State.queue_setEntry (s : State) (i : EntryIx) (x : Entry) : (s.setEntry i x).queue = s.queue := rfl
@[simp] theorem State.classes_setEntry (s : State) (i : EntryIx) (x : Entry) : (s.setEntry i x).classes = s.classes := rfl
@[simp] theorem State.port_setEntry (s : State) (i : EntryIx) (x : Entry) : (s.setEntry i x).port = s.port := rfl
@[simp] theorem State.pending_setEntry (s : State) (i : EntryIx) (x : Entry) : (s.setEntry i x).pending = s.pending := rfl
@[simp] theorem State.point?_setEntry (s : State) (i : EntryIx) (x : Entry) (q : PointId) : (s.setEntry i x).point? q = s.point? q := rfl
@[simp] theorem State.line_setEntry (s : State) (i : EntryIx) (x : Entry) (m : LineNo) : (s.setEntry i x).line m = s.line m := rfl
@[simp] theorem State.dev_setLine (s : State) (l : LineNo) (x : Line) : (s.setLine l x).dev = s.dev := rfl
@[simp] theorem State.pins_setLine (s : State) (l : LineNo) (x : Line) : (s.setLine l x).pins = s.pins := rfl
@[simp] theorem State.points_setLine (s : State) (l : LineNo) (x : Line) : (s.setLine l x).points = s.points := rfl
@[simp] theorem State.forces_setLine (s : State) (l : LineNo) (x : Line) : (s.setLine l x).forces = s.forces := rfl
@[simp] theorem State.entries_setLine (s : State) (l : LineNo) (x : Line) : (s.setLine l x).entries = s.entries := rfl
@[simp] theorem State.queue_setLine (s : State) (l : LineNo) (x : Line) : (s.setLine l x).queue = s.queue := rfl
@[simp] theorem State.classes_setLine (s : State) (l : LineNo) (x : Line) : (s.setLine l x).classes = s.classes := rfl
@[simp] theorem State.port_setLine (s : State) (l : LineNo) (x : Line) : (s.setLine l x).port = s.port := rfl
@[simp] theorem State.pending_setLine (s : State) (l : LineNo) (x : Line) : (s.setLine l x).pending = s.pending := rfl
@[simp] theorem State.point?_setLine (s : State) (l : LineNo) (x : Line) (q : PointId) : (s.setLine l x).point? q = s.point? q := rfl
@[simp] theorem State.entry?_setLine (s : State) (l : LineNo) (x : Line) (j : EntryIx) : (s.setLine l x).entry? j = s.entry? j := rfl
@[simp] theorem State.dev_setDev (s : State) (x : Device) : (s.setDev x).dev = x := rfl
@[simp] theorem State.pins_setDev (s : State) (x : Device) : (s.setDev x).pins = s.pins := rfl
@[simp] theorem State.points_setDev (s : State) (x : Device) : (s.setDev x).points = s.points := rfl
@[simp] theorem State.forces_setDev (s : State) (x : Device) : (s.setDev x).forces = s.forces := rfl
@[simp] theorem State.entries_setDev (s : State) (x : Device) : (s.setDev x).entries = s.entries := rfl
@[simp] theorem State.lines_setDev (s : State) (x : Device) : (s.setDev x).lines = s.lines := rfl
@[simp] theorem State.queue_setDev (s : State) (x : Device) : (s.setDev x).queue = s.queue := rfl
@[simp] theorem State.classes_setDev (s : State) (x : Device) : (s.setDev x).classes = s.classes := rfl
@[simp] theorem State.port_setDev (s : State) (x : Device) : (s.setDev x).port = s.port := rfl
@[simp] theorem State.pending_setDev (s : State) (x : Device) : (s.setDev x).pending = s.pending := rfl
@[simp] theorem State.point?_setDev (s : State) (x : Device) (q : PointId) : (s.setDev x).point? q = s.point? q := rfl
@[simp] theorem State.entry?_setDev (s : State) (x : Device) (j : EntryIx) : (s.setDev x).entry? j = s.entry? j := rfl
@[simp] theorem State.line_setDev (s : State) (x : Device) (m : LineNo) : (s.setDev x).line m = s.line m := rfl
@[simp] theorem State.dev_setPins (s : State) (x : Pins) : (s.setPins x).dev = s.dev := rfl
@[simp] theorem State.pins_setPins (s : State) (x : Pins) : (s.setPins x).pins = x := rfl
@[simp] theorem State.points_setPins (s : State) (x : Pins) : (s.setPins x).points = s.points := rfl
@[simp] theorem State.forces_setPins (s : State) (x : Pins) : (s.setPins x).forces = s.forces := rfl
@[simp] theorem State.entries_setPins (s : State) (x : Pins) : (s.setPins x).entries = s.entries := rfl
@[simp] theorem State.lines_setPins (s : State) (x : Pins) : (s.setPins x).lines = s.lines := rfl
@[simp] theorem State.queue_setPins (s : State) (x : Pins) : (s.setPins x).queue = s.queue := rfl
@[simp] theorem State.classes_setPins (s : State) (x : Pins) : (s.setPins x).classes = s.classes := rfl
@[simp] theorem State.port_setPins (s : State) (x : Pins) : (s.setPins x).port = s.port := rfl
@[simp] theorem State.pending_setPins (s : State) (x : Pins) : (s.setPins x).pending = s.pending := rfl
@[simp] theorem State.point?_setPins (s : State) (x : Pins) (q : PointId) : (s.setPins x).point? q = s.point? q := rfl
@[simp] theorem State.entry?_setPins (s : State) (x : Pins) (j : EntryIx) : (s.setPins x).entry? j = s.entry? j := rfl
@[simp] theorem State.line_setPins (s : State) (x : Pins) (m : LineNo) : (s.setPins x).line m = s.line m := rfl
@[simp] theorem State.dev_setForces (s : State) (x : List ForceEntry) : (s.setForces x).dev = s.dev := rfl
@[simp] theorem State.pins_setForces (s : State) (x : List ForceEntry) : (s.setForces x).pins = s.pins := rfl
@[simp] theorem State.points_setForces (s : State) (x : List ForceEntry) : (s.setForces x).points = s.points := rfl
@[simp] theorem State.forces_setForces (s : State) (x : List ForceEntry) : (s.setForces x).forces = x := rfl
@[simp] theorem State.entries_setForces (s : State) (x : List ForceEntry) : (s.setForces x).entries = s.entries := rfl
@[simp] theorem State.lines_setForces (s : State) (x : List ForceEntry) : (s.setForces x).lines = s.lines := rfl
@[simp] theorem State.queue_setForces (s : State) (x : List ForceEntry) : (s.setForces x).queue = s.queue := rfl
@[simp] theorem State.classes_setForces (s : State) (x : List ForceEntry) : (s.setForces x).classes = s.classes := rfl
@[simp] theorem State.port_setForces (s : State) (x : List ForceEntry) : (s.setForces x).port = s.port := rfl
@[simp] theorem State.pending_setForces (s : State) (x : List ForceEntry) : (s.setForces x).pending = s.pending := rfl
@[simp] theorem State.point?_setForces (s : State) (x : List ForceEntry) (q : PointId) : (s.setForces x).point? q = s.point? q := rfl
@[simp] theorem State.entry?_setForces (s : State) (x : List ForceEntry) (j : EntryIx) : (s.setForces x).entry? j = s.entry? j := rfl
@[simp] theorem State.line_setForces (s : State) (x : List ForceEntry) (m : LineNo) : (s.setForces x).line m = s.line m := rfl
@[simp] theorem State.dev_setPort (s : State) (x : Port) : (s.setPort x).dev = s.dev := rfl
@[simp] theorem State.pins_setPort (s : State) (x : Port) : (s.setPort x).pins = s.pins := rfl
@[simp] theorem State.points_setPort (s : State) (x : Port) : (s.setPort x).points = s.points := rfl
@[simp] theorem State.forces_setPort (s : State) (x : Port) : (s.setPort x).forces = s.forces := rfl
@[simp] theorem State.entries_setPort (s : State) (x : Port) : (s.setPort x).entries = s.entries := rfl
@[simp] theorem State.lines_setPort (s : State) (x : Port) : (s.setPort x).lines = s.lines := rfl
@[simp] theorem State.queue_setPort (s : State) (x : Port) : (s.setPort x).queue = s.queue := rfl
@[simp] theorem State.classes_setPort (s : State) (x : Port) : (s.setPort x).classes = s.classes := rfl
@[simp] theorem State.port_setPort (s : State) (x : Port) : (s.setPort x).port = x := rfl
@[simp] theorem State.pending_setPort (s : State) (x : Port) : (s.setPort x).pending = s.pending := rfl
@[simp] theorem State.point?_setPort (s : State) (x : Port) (q : PointId) : (s.setPort x).point? q = s.point? q := rfl
@[simp] theorem State.entry?_setPort (s : State) (x : Port) (j : EntryIx) : (s.setPort x).entry? j = s.entry? j := rfl
@[simp] theorem State.line_setPort (s : State) (x : Port) (m : LineNo) : (s.setPort x).line m = s.line m := rfl
@[simp] theorem State.dev_setQueue (s : State) (x : List Record) : (s.setQueue x).dev = s.dev := rfl
@[simp] theorem State.pins_setQueue (s : State) (x : List Record) : (s.setQueue x).pins = s.pins := rfl
@[simp] theorem State.points_setQueue (s : State) (x : List Record) : (s.setQueue x).points = s.points := rfl
@[simp] theorem State.forces_setQueue (s : State) (x : List Record) : (s.setQueue x).forces = s.forces := rfl
@[simp] theorem State.entries_setQueue (s : State) (x : List Record) : (s.setQueue x).entries = s.entries := rfl
@[simp] theorem State.lines_setQueue (s : State) (x : List Record) : (s.setQueue x).lines = s.lines := rfl
@[simp] theorem State.queue_setQueue (s : State) (x : List Record) : (s.setQueue x).queue = x := rfl
@[simp] theorem State.classes_setQueue (s : State) (x : List Record) : (s.setQueue x).classes = s.classes := rfl
@[simp] theorem State.port_setQueue (s : State) (x : List Record) : (s.setQueue x).port = s.port := rfl
@[simp] theorem State.pending_setQueue (s : State) (x : List Record) : (s.setQueue x).pending = s.pending := rfl
@[simp] theorem State.point?_setQueue (s : State) (x : List Record) (q : PointId) : (s.setQueue x).point? q = s.point? q := rfl
@[simp] theorem State.entry?_setQueue (s : State) (x : List Record) (j : EntryIx) : (s.setQueue x).entry? j = s.entry? j := rfl
@[simp] theorem State.line_setQueue (s : State) (x : List Record) (m : LineNo) : (s.setQueue x).line m = s.line m := rfl
@[simp] theorem State.dev_modifyPoint (s : State) (p : PointId) (f : Point → Point) : (s.modifyPoint p f).dev = s.dev := by
  unfold State.modifyPoint; split <;> rfl
@[simp] theorem State.dev_modifyEntry (s : State) (i : EntryIx) (f : Entry → Entry) : (s.modifyEntry i f).dev = s.dev := by
  unfold State.modifyEntry; split <;> rfl
@[simp] theorem State.pins_modifyPoint (s : State) (p : PointId) (f : Point → Point) : (s.modifyPoint p f).pins = s.pins := by
  unfold State.modifyPoint; split <;> rfl
@[simp] theorem State.pins_modifyEntry (s : State) (i : EntryIx) (f : Entry → Entry) : (s.modifyEntry i f).pins = s.pins := by
  unfold State.modifyEntry; split <;> rfl
@[simp] theorem State.points_modifyEntry (s : State) (i : EntryIx) (f : Entry → Entry) : (s.modifyEntry i f).points = s.points := by
  unfold State.modifyEntry; split <;> rfl
@[simp] theorem State.forces_modifyPoint (s : State) (p : PointId) (f : Point → Point) : (s.modifyPoint p f).forces = s.forces := by
  unfold State.modifyPoint; split <;> rfl
@[simp] theorem State.forces_modifyEntry (s : State) (i : EntryIx) (f : Entry → Entry) : (s.modifyEntry i f).forces = s.forces := by
  unfold State.modifyEntry; split <;> rfl
@[simp] theorem State.entries_modifyPoint (s : State) (p : PointId) (f : Point → Point) : (s.modifyPoint p f).entries = s.entries := by
  unfold State.modifyPoint; split <;> rfl
@[simp] theorem State.lines_modifyPoint (s : State) (p : PointId) (f : Point → Point) : (s.modifyPoint p f).lines = s.lines := by
  unfold State.modifyPoint; split <;> rfl
@[simp] theorem State.lines_modifyEntry (s : State) (i : EntryIx) (f : Entry → Entry) : (s.modifyEntry i f).lines = s.lines := by
  unfold State.modifyEntry; split <;> rfl
@[simp] theorem State.queue_modifyPoint (s : State) (p : PointId) (f : Point → Point) : (s.modifyPoint p f).queue = s.queue := by
  unfold State.modifyPoint; split <;> rfl
@[simp] theorem State.queue_modifyEntry (s : State) (i : EntryIx) (f : Entry → Entry) : (s.modifyEntry i f).queue = s.queue := by
  unfold State.modifyEntry; split <;> rfl
@[simp] theorem State.classes_modifyPoint (s : State) (p : PointId) (f : Point → Point) : (s.modifyPoint p f).classes = s.classes := by
  unfold State.modifyPoint; split <;> rfl
@[simp] theorem State.classes_modifyEntry (s : State) (i : EntryIx) (f : Entry → Entry) : (s.modifyEntry i f).classes = s.classes := by
  unfold State.modifyEntry; split <;> rfl
@[simp] theorem State.port_modifyPoint (s : State) (p : PointId) (f : Point → Point) : (s.modifyPoint p f).port = s.port := by
  unfold State.modifyPoint; split <;> rfl
@[simp] theorem State.port_modifyEntry (s : State) (i : EntryIx) (f : Entry → Entry) : (s.modifyEntry i f).port = s.port := by
  unfold State.modifyEntry; split <;> rfl
@[simp] theorem State.pending_modifyPoint (s : State) (p : PointId) (f : Point → Point) : (s.modifyPoint p f).pending = s.pending := by
  unfold State.modifyPoint; split <;> rfl
@[simp] theorem State.pending_modifyEntry (s : State) (i : EntryIx) (f : Entry → Entry) : (s.modifyEntry i f).pending = s.pending := by
  unfold State.modifyEntry; split <;> rfl
@[simp] theorem State.line_modifyPoint (s : State) (p : PointId) (f : Point → Point) (m : LineNo) : (s.modifyPoint p f).line m = s.line m := by
  unfold State.modifyPoint; split <;> rfl
@[simp] theorem State.entry?_modifyPoint (s : State) (p : PointId) (f : Point → Point) (j : EntryIx) : (s.modifyPoint p f).entry? j = s.entry? j := by
  unfold State.modifyPoint; split <;> rfl
@[simp] theorem State.line_modifyEntry (s : State) (i : EntryIx) (f : Entry → Entry) (m : LineNo) : (s.modifyEntry i f).line m = s.line m := by
  unfold State.modifyEntry; split <;> rfl
@[simp] theorem State.point?_modifyEntry (s : State) (i : EntryIx) (f : Entry → Entry) (q : PointId) : (s.modifyEntry i f).point? q = s.point? q := by
  unfold State.modifyEntry; split <;> rfl

/-! ### The work of an event -/

@[simp] theorem Work.put_st (w : Work) (s : State) : (w.put s).st = s := rfl
@[simp] theorem Work.put_raised (w : Work) (s : State) : (w.put s).raised = w.raised := rfl

end Sys2Proof.Machine
end

