-- ==== Sys2Proof/Laws/Agree.lean ====
section
/-! SUPPORT. `AgreesBy` is an equivalence that every update keeps, and what each operation of the Change Queue and of an event
can do, said once in terms of it. -/

namespace Sys2Proof.Machine

variable {fp : Point → Point} {fe : Entry → Entry} {s t u : State}

/-! ### The relation -/

theorem AgreesBy.refl (s : State) : AgreesBy fp fe s s :=
  ⟨rfl, rfl, fun _ => rfl, rfl, fun _ => rfl, fun _ => rfl, rfl, rfl, rfl⟩

theorem AgreesBy.trans (h : AgreesBy fp fe s t) (k : AgreesBy fp fe t u) : AgreesBy fp fe s u :=
  ⟨k.dev.trans h.dev, k.pins.trans h.pins, fun p => (k.points p).trans (h.points p), k.forces.trans h.forces,
    fun i => (k.entries i).trans (h.entries i), fun l => (k.lines l).trans (h.lines l), k.classes.trans h.classes,
    k.port.trans h.port, k.pending.trans h.pending⟩

theorem AgreesBy.symm (h : AgreesBy fp fe s t) : AgreesBy fp fe t s :=
  ⟨h.dev.symm, h.pins.symm, fun p => (h.points p).symm, h.forces.symm, fun i => (h.entries i).symm,
    fun l => (h.lines l).symm, h.classes.symm, h.port.symm, h.pending.symm⟩

@[simp] theorem Point.quiet_unreported (r : Point) : r.unreported.quiet = r.quiet := by
  obtain ⟨pl, rep, q, c, f, pe, lc, b⟩ := r
  cases b <;> rfl

@[simp] theorem Entry.quiet_unreported (e : Entry) : e.unreported.quiet = e.quiet := rfl

/-- What agrees but for the Change Queue agrees. -/
theorem AgreesBy.weaken (h : AgreesButQueue s t) : Agrees s t :=
  { h with
    points := fun p => by
      have := congrArg (Option.map Point.quiet) (h.points p)
      simpa [Option.map_map, Function.comp_def] using this
    entries := fun i => by
      have := congrArg (Option.map Entry.quiet) (h.entries i)
      simpa [Option.map_map, Function.comp_def] using this }

/-! ### Updates of both sides -/

theorem AgreesBy.setPoint (h : AgreesBy fp fe s t) {p : PointId} {r r' : Point} (hr : fp r' = fp r) :
    AgreesBy fp fe (s.setPoint p r) (t.setPoint p r') :=
  { h with
    points := fun q => by
      by_cases hq : q = p
      · simp [hq, hr]
      · simpa [hq] using h.points q
    entries := h.entries, lines := h.lines }

theorem AgreesBy.setEntry (h : AgreesBy fp fe s t) {i : EntryIx} {e e' : Entry} (he : fe e' = fe e) :
    AgreesBy fp fe (s.setEntry i e) (t.setEntry i e') :=
  { h with
    entries := fun j => by
      by_cases hj : j = i
      · simp [hj, he]
      · simpa [hj] using h.entries j
    points := h.points, lines := h.lines }

theorem AgreesBy.setLine (h : AgreesBy fp fe s t) {l : LineNo} {L L' : Line} (hL : L'.quiet = L.quiet) :
    AgreesBy fp fe (s.setLine l L) (t.setLine l L') :=
  { h with
    lines := fun m => by
      by_cases hm : m = l
      · simp [hm, hL]
      · simpa [hm] using h.lines m
    points := h.points, entries := h.entries }

theorem AgreesBy.setDev (h : AgreesBy fp fe s t) {d d' : Device} (hd : d'.quiet = d.quiet) :
    AgreesBy fp fe (s.setDev d) (t.setDev d') :=
  { h with dev := hd, points := h.points, entries := h.entries, lines := h.lines }

theorem AgreesBy.setPins (h : AgreesBy fp fe s t) (p : Pins) : AgreesBy fp fe (s.setPins p) (t.setPins p) :=
  { h with pins := rfl, points := h.points, entries := h.entries, lines := h.lines }

theorem AgreesBy.setForces (h : AgreesBy fp fe s t) (f : List ForceEntry) :
    AgreesBy fp fe (s.setForces f) (t.setForces f) :=
  { h with forces := rfl, points := h.points, entries := h.entries, lines := h.lines }

theorem AgreesBy.setPort (h : AgreesBy fp fe s t) (p : Port) : AgreesBy fp fe (s.setPort p) (t.setPort p) :=
  { h with port := rfl, points := h.points, entries := h.entries, lines := h.lines }

/-! ### Updates of one side -/

theorem agreesBy_setQueue (s : State) (q : List Record) : AgreesBy fp fe s (s.setQueue q) :=
  ⟨rfl, rfl, fun _ => rfl, rfl, fun _ => rfl, fun _ => rfl, rfl, rfl, rfl⟩

theorem agreesBy_modifyPoint (s : State) (p : PointId) {f : Point → Point} (hf : ∀ r, fp (f r) = fp r) :
    AgreesBy fp fe s (s.modifyPoint p f) :=
  { AgreesBy.refl (fp := fp) (fe := fe) s with
    dev := by simp
    pins := by simp
    points := fun q => by
      rw [State.point?_modifyPoint]
      split
      · simp [Option.map_map, Function.comp_def, hf]
      · rfl
    forces := by simp
    entries := fun i => by simp
    lines := fun l => by simp
    classes := by simp
    port := by simp
    pending := by simp }

theorem agreesBy_modifyEntry (s : State) (i : EntryIx) {f : Entry → Entry} (hf : ∀ e, fe (f e) = fe e) :
    AgreesBy fp fe s (s.modifyEntry i f) :=
  { AgreesBy.refl (fp := fp) (fe := fe) s with
    dev := by simp
    pins := by simp
    entries := fun j => by
      rw [State.entry?_modifyEntry]
      split
      · simp [Option.map_map, Function.comp_def, hf]
      · rfl
    forces := by simp
    points := fun i => by simp
    lines := fun l => by simp
    classes := by simp
    port := by simp
    pending := by simp }

theorem agreesBy_setPoint {p : PointId} {old new : Point} (ho : s.point? p = some old) (hn : fp new = fp old) :
    AgreesBy fp fe s (s.setPoint p new) :=
  { AgreesBy.refl (fp := fp) (fe := fe) s with
    points := fun q => by
      by_cases hq : q = p
      · simp [hq, ho, hn]
      · simp [hq]
    entries := fun _ => rfl, lines := fun _ => rfl }

theorem agreesBy_setEntry {i : EntryIx} {old new : Entry} (ho : s.entry? i = some old) (hn : fe new = fe old) :
    AgreesBy fp fe s (s.setEntry i new) :=
  { AgreesBy.refl (fp := fp) (fe := fe) s with
    entries := fun j => by
      by_cases hj : j = i
      · simp [hj, ho, hn]
      · simp [hj]
    points := fun _ => rfl, lines := fun _ => rfl }

theorem agreesBy_setLine {l : LineNo} {L : Line} (hL : L.quiet = (s.line l).quiet) :
    AgreesBy fp fe s (s.setLine l L) :=
  { AgreesBy.refl (fp := fp) (fe := fe) s with
    lines := fun m => by
      by_cases hm : m = l
      · simp [hm, hL]
      · simp [hm]
    points := fun _ => rfl, entries := fun _ => rfl }

theorem agreesBy_setDev {d : Device} (hd : d.quiet = s.dev.quiet) : AgreesBy fp fe s (s.setDev d) :=
  { AgreesBy.refl (fp := fp) (fe := fe) s with dev := hd, points := fun _ => rfl, entries := fun _ => rfl, lines := fun _ => rfl }

/-! ### The Change Queue's operations (chapter 8) -/

@[simp] theorem Point.unreported_setRecorded (r : Point) (v : Int) : (r.setRecorded v).unreported = r.unreported := by
  obtain ⟨pl, rep, q, c, f, pe, lc, b⟩ := r
  cases b <;> rfl

@[simp] theorem Point.quiet_setRecorded (r : Point) (v : Int) : (r.setRecorded v).quiet = r.quiet := by
  rw [← Point.quiet_unreported, Point.unreported_setRecorded, Point.quiet_unreported]

theorem agrees_noteRecorded (s : State) (k : Key) : AgreesButQueue s (s.noteRecorded k) := by
  cases k with
  | point p => exact agreesBy_modifyPoint s p fun r => r.unreported_setRecorded _
  | _ => exact AgreesBy.refl s

theorem agrees_setPending (s : State) (k : Key) (m : Pending) : AgreesButQueue s (s.setPending k m) := by
  cases k with
  | device => exact agreesBy_setDev rfl
  | line l => exact agreesBy_setLine rfl
  | interlock i => exact agreesBy_modifyEntry s i fun _ => rfl
  | point p =>
    refine agreesBy_modifyPoint s p fun r => ?_
    obtain ⟨pl, rep, q, c, f, pe, lc, b⟩ := r
    cases b <;> rfl

/-- A notice taken by the queue touches nothing but the queue's own fields (R149 to R151). -/
theorem agrees_takeNotice (s : State) (k : Key) : AgreesButQueue s (s.takeNotice k) := by
  unfold State.takeNotice
  split
  · split
    · exact (agreesBy_setQueue s _).trans (agrees_noteRecorded _ k)
    · split
      · exact (agreesBy_setQueue s _).trans (agrees_noteRecorded _ k)
      · exact agrees_setPending s k _
  · exact AgreesBy.refl s

theorem agrees_refresh (s : State) (k : Key) : AgreesButQueue s (s.refresh k) := by
  unfold State.refresh
  split
  · split
    · exact (agreesBy_setQueue s _).trans (agrees_noteRecorded _ k)
    · exact AgreesBy.refl s
  · exact AgreesBy.refl s

theorem agrees_stamp (s : State) (k : Key) : AgreesButQueue s (s.stamp k) := by
  cases k with
  | point p =>
    refine agreesBy_modifyPoint s p fun r => ?_
    obtain ⟨pl, rep, q, c, f, pe, lc, b⟩ := r
    cases b <;> rfl
  | _ => exact AgreesBy.refl s

/-- An admission touches nothing but the queue's own fields (R152). -/
theorem agrees_admitOne (s : State) : AgreesButQueue s s.admitOne := by
  unfold State.admitOne
  split
  · exact AgreesBy.refl s
  · split
    · exact ((agreesBy_setQueue s _).trans (agrees_noteRecorded _ _)).trans (agrees_setPending _ _ _)
    · exact AgreesBy.refl s

theorem agrees_drain (k : Nat) (s : State) : AgreesButQueue s (s.drain k) := by
  induction k generalizing s with
  | zero => exact AgreesBy.refl s
  | succ k ih => exact ((agreesBy_setQueue s _).trans (agrees_admitOne _)).trans (ih _)

theorem agrees_drainHead (s : State) : AgreesButQueue s s.drainHead :=
  agrees_drain _ s

theorem agrees_departKey (s : State) (k : Key) : AgreesButQueue s (s.departKey k) := by
  unfold State.departKey
  split
  · exact (agreesBy_setQueue s _).trans (agrees_admitOne _)
  · exact AgreesBy.refl s

theorem agrees_forgetKey (s : State) (k : Key) : AgreesButQueue s (s.forgetKey k) :=
  (agrees_setPending s k _).trans (agrees_departKey _ k)

theorem agrees_foldl {α : Type} {f : State → α → State} (h : ∀ s a, AgreesBy fp fe s (f s a)) (l : List α) (s : State) :
    AgreesBy fp fe s (l.foldl f s) := by
  induction l generalizing s with
  | nil => exact AgreesBy.refl s
  | cons a l ih => exact (h s a).trans (ih _)

theorem agrees_clearMarks (s : State) : AgreesButQueue s s.clearMarks :=
  { AgreesBy.refl (fp := Point.unreported) (fe := Entry.unreported) s with
    dev := rfl
    points := fun p => by
      simp only [State.point?, State.clearMarks, tableGet_map (fun _ (r : Point) => { r with pending := Pending.clear }),
        Option.map_map]
      congr 1
      funext r
      obtain ⟨pl, rep, q, c, f, pe, lc, b⟩ := r
      cases b <;> rfl
    entries := fun i => by
      simp only [State.entry?, State.clearMarks, tableGet_map (fun _ (e : Entry) => { e with pending := Pending.clear }),
        Option.map_map]
      rfl
    lines := fun l => by cases l <;> rfl }

theorem agrees_emptyQueue (s : State) : AgreesButQueue s s.emptyQueue :=
  (agreesBy_setQueue s []).trans (agrees_clearMarks _)

/-! ### Events -/

/-- A notice touches nothing but the queue's own fields and the timestamp (R23, R149). -/
theorem agrees_notice (w : Work) (k : Key) : AgreesButQueue w.st (w.notice k).st := by
  unfold Work.notice
  split
  · exact AgreesBy.refl _
  · exact (agrees_stamp w.st k).trans (agrees_takeNotice _ k)

/-- The end of an event touches nothing but the queue's own fields (R148). -/
theorem agrees_finish (w : Work) : AgreesButQueue w.st w.finish :=
  agrees_foldl agrees_refresh _ _

/-- An event leaves what its work leaves, but for the queue's own fields. -/
theorem agrees_event (s : State) (f : Work → Work) : AgreesButQueue (f ⟨s, []⟩).st (s.event f) :=
  agrees_finish _

theorem agrees_foldl_work {α : Type} {f : Work → α → Work} (h : ∀ w a, AgreesBy fp fe w.st (f w a).st) (l : List α)
    (w : Work) : AgreesBy fp fe w.st (l.foldl f w).st := by
  induction l generalizing w with
  | nil => exact AgreesBy.refl _
  | cons a l ih => exact (h w a).trans (ih _)

end Sys2Proof.Machine
end

