-- ==== Sys2Proof/Laws/Events.lean ====
section
/-! SUPPORT. What storing, evaluating, gating and handing on a change can do, said once for each operation. -/

namespace Sys2Proof.Machine

variable {s t : State}

/-! ### Storing (R23, R56) -/

@[simp] theorem Point.unreported_trackRecorded (old new : Point) :
    (trackRecorded old new).unreported = new.unreported := by
  unfold trackRecorded
  split
  · split
    · exact Point.unreported_setRecorded _ _
    · rfl
  · rfl

/-- A stored point stands in the table, but for the queue's own fields (R23). -/
theorem agrees_storePoint (w : Work) (p : PointId) (old new : Point) :
    AgreesButQueue (w.st.setPoint p new) (w.storePoint p old new).st := by
  have h : AgreesButQueue (w.st.setPoint p new) (w.st.setPoint p (trackRecorded old new)) :=
    (AgreesBy.refl _).setPoint (Point.unreported_trackRecorded old new)
  unfold Work.storePoint
  dsimp only
  split
  · exact h.trans (agrees_notice (w.put _) _)
  · exact h

/-- A stored entry stands in the table, but for the queue's own fields (R56). -/
theorem agrees_storeEntry (w : Work) (i : EntryIx) (old new : Entry) :
    AgreesButQueue (w.st.setEntry i new) (w.storeEntry i old new).st := by
  unfold Work.storeEntry
  dsimp only
  split
  · exact agrees_notice (w.put _) _
  · exact AgreesBy.refl _

/-! ### Gating and evaluation (R50, R59 to R62) -/

/-- A recomputed effective value touches nothing else (R61). -/
theorem agrees_regate (w : Work) (p : PointId) : Agrees w.st (w.regate p).st := by
  unfold Work.regate
  split
  · rename_i r hr
    split
    · rename_i f hf
      refine AgreesBy.trans ?_ (agrees_storePoint w p r _).weaken
      refine agreesBy_setPoint hr ?_
      simp [Point.quiet, hf, PointBody.quiet, PointBody.isDerived]
    · exact AgreesBy.refl _
  · exact AgreesBy.refl _

@[simp] theorem Entry.quiet_settle (e : Entry) (terms : List Term) :
    (e.settle terms).quiet = { e with terms := terms }.quiet := by
  obtain ⟨tg, la, de, te, st, ca, ti, pe⟩ := e
  cases st <;> cases h : allTrue terms <;> simp [Entry.settle, h, Entry.quiet, Entry.startRelease, Entry.fall]
  all_goals split <;> simp

@[simp] theorem map_quiet_evalTerms (s : State) (changed : List PointId) (terms : List Term) :
    (evalTerms s changed terms).map Term.quiet = terms.map Term.quiet := by
  unfold evalTerms
  rw [List.map_map]
  congr 1
  funext t
  simp only [Function.comp_apply]
  split <;> rfl

theorem agrees_evalEntry (changed : List PointId) (w : Work) (i : EntryIx) :
    Agrees w.st (Work.evalEntry changed w i).st := by
  unfold Work.evalEntry
  split
  · rename_i e he
    split
    · refine AgreesBy.trans ?_ (agrees_regate _ _)
      refine AgreesBy.trans ?_ (agrees_storeEntry w i e _).weaken
      refine agreesBy_setEntry he ?_
      rw [Entry.quiet_settle]
      simp [Entry.quiet]
    · exact AgreesBy.refl _
  · exact AgreesBy.refl _

/-- An evaluation touches entries' latches, states, causes and timers and effective values alone (R50). -/
theorem agrees_evaluate (w : Work) (changed : List PointId) : Agrees w.st (w.evaluate changed).st :=
  agrees_foldl_work (agrees_evalEntry changed) _ _

/-- Driving an output touches no more (R61, R62). -/
theorem agrees_drive (w : Work) (p : PointId) : Agrees w.st (w.drive p).st := by
  unfold Work.drive
  dsimp only
  split
  · exact (agrees_regate w p).trans (agrees_evaluate _ _)
  · exact agrees_regate w p

/-! ### Derived points and hand-ons (R13, R38 to R41) -/

theorem Point.quiet_derive (s : State) (r : Point) (f : DerivedFields) (hf : r.body = .derived f) :
    (s.derive r f).quiet = r.quiet := by
  obtain ⟨pl, rep, q, c, fo, pe, lc, b⟩ := r
  simp only at hf
  subst hf
  unfold State.derive
  split <;> rfl

theorem agrees_recompute (acc : Work × List PointId) (d : PointId) : Agrees acc.1.st (Work.recompute acc d).1.st := by
  unfold Work.recompute
  split
  · rename_i r hr
    split
    · rename_i f hf
      exact (agreesBy_setPoint hr (Point.quiet_derive _ r f hf)).trans (agrees_storePoint acc.1 d r _).weaken
    · exact AgreesBy.refl _
  · exact AgreesBy.refl _

theorem agrees_recomputes (ids : List PointId) (acc : Work × List PointId) :
    Agrees acc.1.st (ids.foldl Work.recompute acc).1.st := by
  induction ids generalizing acc with
  | nil => exact AgreesBy.refl _
  | cons d ids ih => exact (agrees_recompute acc d).trans (ih _)

/-- A hand-on touches derived points, entries and effective values alone (R13, R185). -/
theorem agrees_handOn (w : Work) (p : PointId) : Agrees w.st (w.handOn p).st :=
  (agrees_recomputes _ (w, [p])).trans (agrees_evaluate _ _)

/-- A changed point takes its new record, and nothing else but what a hand-on touches changes (R13, R23, R185). -/
theorem agrees_changePoint (w : Work) (p : PointId) (old new : Point) :
    Agrees (w.st.setPoint p new) (w.changePoint p old new).st := by
  unfold Work.changePoint
  dsimp only
  split
  · exact (agrees_storePoint w p old new).weaken.trans (agrees_handOn _ _)
  · exact (agrees_storePoint w p old new).weaken

/-! ### Point by point -/

theorem Point.isDerived_of_quiet {r r' : Point} (h : r'.quiet = r.quiet) : r'.body.isDerived = r.body.isDerived := by
  obtain ⟨pl, rep, q, c, f, pe, lc, b⟩ := r
  obtain ⟨pl', rep', q', c', f', pe', lc', b'⟩ := r'
  cases b <;> cases b' <;> simp_all [Point.quiet, PointBody.quiet, PointBody.isDerived]

/-- A change of a point that reads only what the quiet record holds. -/
def QuietMap (f : Point → Point) : Prop :=
  ∀ r r', r'.quiet = r.quiet → r.body.isDerived = false → (f r').quiet = (f r).quiet

theorem AgreesBy.modifyPoint (h : Agrees s t) {p : PointId} {f : Point → Point} (hf : QuietMap f)
    (hd : ∀ r, s.point? p = some r → r.body.isDerived = false) :
    Agrees (s.modifyPoint p f) (t.modifyPoint p f) :=
  { h with
    dev := by simpa using h.dev
    pins := by simpa using h.pins
    points := fun q => by
      rw [State.point?_modifyPoint, State.point?_modifyPoint]
      by_cases hq : q = p
      · subst hq
        have hp := h.points q
        cases hs : s.point? q with
        | none => cases ht : t.point? q <;> simp_all
        | some r =>
          cases ht : t.point? q with
          | none => simp_all
          | some r' =>
            simp only [hs, ht, Option.map_some, Option.some.injEq] at hp
            simpa using hf r r' hp (hd r hs)
      · simpa [hq] using h.points q
    forces := by simpa using h.forces
    entries := fun i => by simpa using h.entries i
    lines := fun l => by simpa using h.lines l
    classes := by simpa using h.classes
    port := by simpa using h.port
    pending := by simpa using h.pending }

theorem State.mem_ids {P : PointId × Point → Bool} {p : PointId} :
    p ∈ (s.points.filter P).map Prod.fst ↔ ∃ r, (p, r) ∈ s.points ∧ P (p, r) = true := by
  simp

theorem State.ids_nodup {P : PointId × Point → Bool} (hs : tableSorted s.points = true) :
    ((s.points.filter P).map Prod.fst).Nodup := by
  simp only [tableSorted, decide_eq_true_eq] at hs
  exact (hs.sublist ((List.filter_sublist).map _)).imp fun h => ne_of_lt h

theorem State.point?_mapPoints (s : State) (f : Point → Point) (p : PointId) :
    (s.mapPoints f).point? p = (s.point? p).map f :=
  tableGet_map (fun _ r => f r) p s.points

theorem State.point?_modifyAll (f : Point → Point) (ids : List PointId) (hn : ids.Nodup) (s : State) (p : PointId) :
    (ids.foldl (fun t q => t.modifyPoint q f) s).point? p = if p ∈ ids then (s.point? p).map f else s.point? p := by
  induction ids generalizing s with
  | nil => simp
  | cons q ids ih =>
    rw [List.nodup_cons] at hn
    rw [List.foldl_cons, ih hn.2, State.point?_modifyPoint]
    by_cases hp : p = q
    · subst hp; simp [hn.1]
    · simp [hp]

/-- A loop over points that changes each by a quiet map, and hands each change on before the next, leaves every point of the
loop changed by the map, and nothing else but what hand-ons touch. -/
theorem agrees_pointLoop {step : Work → PointId → Work} {f : Point → Point} (hf : QuietMap f)
    (hstep : ∀ w p, Agrees (w.st.modifyPoint p f) (step w p).st)
    (hkeep : ∀ r, (f r).body.isDerived = r.body.isDerived)
    (ids : List PointId) (w : Work) (hd : ∀ p ∈ ids, ∀ r, w.st.point? p = some r → r.body.isDerived = false) :
    Agrees (ids.foldl (fun t q => t.modifyPoint q f) w.st) (ids.foldl step w).st := by
  suffices key : ∀ (ids : List PointId) (w : Work) (s : State), Agrees s w.st →
      (∀ p ∈ ids, ∀ r, s.point? p = some r → r.body.isDerived = false) →
      Agrees (ids.foldl (fun t q => t.modifyPoint q f) s) (ids.foldl step w).st from
    key ids w w.st (AgreesBy.refl _) hd
  intro ids
  induction ids with
  | nil => intro w s h _; exact h
  | cons p ids ih =>
    intro w s h hd
    refine ih (step w p) (s.modifyPoint p f) ((h.modifyPoint hf (hd p (by simp))).trans (hstep w p)) ?_
    intro q hq r hr
    rw [State.point?_modifyPoint] at hr
    split at hr
    · rename_i hqp
      subst hqp
      cases hsq : s.point? q with
      | none => simp [hsq] at hr
      | some r0 =>
        simp only [hsq, Option.map_some, Option.some.injEq] at hr
        rw [← hr, hkeep]
        exact hd q (by simp) r0 hsq
    · exact hd q (List.mem_cons_of_mem _ hq) r hr

/-- The same for the points of a table that a condition chooses: the whole table is mapped. -/
theorem agrees_tableLoop {step : Work → PointId → Work} {f : Point → Point} {P : PointId × Point → Bool} (hf : QuietMap f)
    (hstep : ∀ w p, Agrees (w.st.modifyPoint p f) (step w p).st)
    (hkeep : ∀ r, (f r).body.isDerived = r.body.isDerived)
    (w : Work) (hs : tableSorted w.st.points = true)
    (hd : ∀ e ∈ w.st.points, P e = true → e.2.body.isDerived = false) :
    Agrees { w.st with points := w.st.points.map fun e => (e.1, if P e then f e.2 else e.2) }
      (((w.st.points.filter P).map Prod.fst).foldl step w).st := by
  refine AgreesBy.trans ?_ (agrees_pointLoop hf hstep hkeep _ w ?_)
  · have hn := State.ids_nodup (s := w.st) (P := P) hs
    generalize hids : (w.st.points.filter P).map Prod.fst = ids at hn
    have other : ∀ (ids : List PointId) (s : State),
        let u := ids.foldl (fun t q => t.modifyPoint q f) s
        u.dev = s.dev ∧ u.pins = s.pins ∧ u.forces = s.forces ∧ u.entries = s.entries ∧ u.lines = s.lines ∧
          u.classes = s.classes ∧ u.port = s.port ∧ u.pending = s.pending := by
      intro ids
      induction ids with
      | nil => intro s; simp
      | cons p ids ih => intro s; simpa using ih (s.modifyPoint p f)
    obtain ⟨h1, h2, h3, h4, h5, h6, h7, h8⟩ := other ids w.st
    refine ⟨by rw [h1], h2, ?_, h3, fun i => by simp only [State.entry?, h4], fun l => by simp only [State.line, h5], h6, h7,
      h8⟩
    intro p
    rw [State.point?_modifyAll f ids hn]
    simp only [State.point?, tableGet_map (fun i r => if P (i, r) then f r else r)]
    congr 1
    cases hg : tableGet p w.st.points with
    | none => simp
    | some r =>
      have hm : p ∈ ids ↔ P (p, r) = true := by
        rw [← hids, State.mem_ids]
        constructor
        · rintro ⟨r', hr', hP⟩
          rw [tableGet_of_mem hs hr'] at hg
          cases hg; exact hP
        · exact fun h => ⟨r, tableGet_mem hg, h⟩
      by_cases hP : P (p, r) = true <;> simp [hm, hP]
  · intro p hp r hr
    obtain ⟨r', hr', hP⟩ := State.mem_ids.1 hp
    have := tableGet_of_mem hs hr'
    rw [State.point?, this] at hr
    cases hr
    exact hd _ hr' hP

end Sys2Proof.Machine
end

