-- ==== Sys2Proof/WellFormed.lean ====
section
/-! DEFINITION. Which commands are well formed: operands that the festoon or a drop line can carry. -/

namespace Sys2Proof

/-- The codes the part assigns to requests (11.4, R163). -/
def assignedCodes : List Nat :=
  [0x01, 0x02, 0x03, 0x04, 0x05, 0x06, 0x07, 0x08] ++ [0x10, 0x11, 0x12, 0x13, 0x14, 0x15, 0x16]
    ++ [0x20, 0x21, 0x22, 0x23] ++ [0x30, 0x31, 0x32, 0x33, 0x34, 0x35] ++ [0x40, 0x41, 0x42]

/-- The parameters of a frame: at most 198 bytes (11.4). -/
def paramsFit (ps : List Byte) : Bool :=
  decide (ps.length ≤ 198)

/-- A command is well formed: its parameters fit a frame, the code of an UNKNOWN is not assigned, and the bytes between the
header and the check word of a station's telegram fit the longest one (11.2). -/
def Instr.wellFormed : Instr → Bool
  | .definePoint _ ps => paramsFit ps
  | .clearPoint _ ps => paramsFit ps
  | .readPoints _ ps => paramsFit ps
  | .setOutputs _ ps => paramsFit ps
  | .force _ ps => paramsFit ps
  | .release _ ps => paramsFit ps
  | .setPins _ ps => paramsFit ps
  | .defineInterlock _ ps => paramsFit ps
  | .clearInterlock _ ps => paramsFit ps
  | .readInterlock _ ps => paramsFit ps
  | .acknowledge _ ps => paramsFit ps
  | .readLine _ ps => paramsFit ps
  | .setLine _ ps => paramsFit ps
  | .restartLine _ ps => paramsFit ps
  | .serviceOpen _ ps => paramsFit ps
  | .serviceTransfer _ ps => paramsFit ps
  | .serviceClose _ ps => paramsFit ps
  | .setReporting _ ps => paramsFit ps
  | .readChanges _ ps => paramsFit ps
  | .reportHold _ ps => paramsFit ps
  | .echo _ ps => paramsFit ps
  | .readDevice _ ps => paramsFit ps
  | .reset _ ps => paramsFit ps
  | .start _ ps => paramsFit ps
  | .stop _ ps => paramsFit ps
  | .enterSafe _ ps => paramsFit ps
  | .resume _ ps => paramsFit ps
  | .setMonitor _ ps => paramsFit ps
  | .unknown code _ ps => paramsFit ps && !assignedCodes.contains code.toNat
  | .frameDiscard _ => true
  | .gap _ => true
  | .replyTransmit => true
  | .waitingReplyQueued => true
  | .reportFrame => true
  | .frameTransmitted => true
  | .reportHoldExpiry => true
  | .commandReset => true
  | .powerOnReset _ _ => true
  | .pinReset => true
  | .pinResetRelease _ _ => true
  | .silenceExpiry => true
  | .pinSample _ => true
  | .releaseTimerExpiry _ => true
  | .pollTimerExpiry _ => true
  | .shutSent _ => true
  | .turnEnd _ => true
  | .replyTimerExpiry _ => true
  | .openReceived _ => true
  | .reply _ _ body => decide (body.length ≤ 32)
  | .serviceReply _ _ payload => decide (payload.length ≤ 24)
  | .badTelegram _ _ => true
  | .beacon _ _ _ _ _ _ => true
  | .holdTimerExpiry _ => true
  | .dwellTimerExpiry _ => true
  | .lock _ _ => true
  | .lockLoss _ => true
  | .characterReceived _ _ _ => true
  | .symbolReceived _ _ => true
  | .frameTurnedAway => true

end Sys2Proof
end

