-- ==== Sys2Proof/Laws/PerInstr.lean ====
section
/-! SUPPORT. One law for every command: a request's frame spells that request and no other command is spelled by a frame. -/

namespace Sys2Proof.Laws

open Sys2Proof.Machine

/-- The code, the tag and the parameters of the frame that carries a command (11.4); none where no frame carries it. -/
def frameOf : Instr → Option (Byte × Byte × List Byte)
  | .definePoint tag ps => some (0x10, tag, ps)
  | .clearPoint tag ps => some (0x11, tag, ps)
  | .readPoints tag ps => some (0x12, tag, ps)
  | .setOutputs tag ps => some (0x13, tag, ps)
  | .force tag ps => some (0x14, tag, ps)
  | .release tag ps => some (0x15, tag, ps)
  | .setPins tag ps => some (0x16, tag, ps)
  | .defineInterlock tag ps => some (0x20, tag, ps)
  | .clearInterlock tag ps => some (0x21, tag, ps)
  | .readInterlock tag ps => some (0x22, tag, ps)
  | .acknowledge tag ps => some (0x23, tag, ps)
  | .readLine tag ps => some (0x31, tag, ps)
  | .setLine tag ps => some (0x30, tag, ps)
  | .restartLine tag ps => some (0x32, tag, ps)
  | .serviceOpen tag ps => some (0x33, tag, ps)
  | .serviceTransfer tag ps => some (0x34, tag, ps)
  | .serviceClose tag ps => some (0x35, tag, ps)
  | .setReporting tag ps => some (0x40, tag, ps)
  | .readChanges tag ps => some (0x41, tag, ps)
  | .reportHold tag ps => some (0x42, tag, ps)
  | .echo tag ps => some (0x01, tag, ps)
  | .readDevice tag ps => some (0x02, tag, ps)
  | .reset tag ps => some (0x03, tag, ps)
  | .start tag ps => some (0x04, tag, ps)
  | .stop tag ps => some (0x05, tag, ps)
  | .enterSafe tag ps => some (0x06, tag, ps)
  | .resume tag ps => some (0x07, tag, ps)
  | .setMonitor tag ps => some (0x08, tag, ps)
  | .unknown code tag ps => some (code, tag, ps)
  | .frameDiscard _ => none
  | .gap _ => none
  | .replyTransmit => none
  | .waitingReplyQueued => none
  | .reportFrame => none
  | .frameTransmitted => none
  | .reportHoldExpiry => none
  | .commandReset => none
  | .powerOnReset _ _ => none
  | .pinReset => none
  | .pinResetRelease _ _ => none
  | .silenceExpiry => none
  | .pinSample _ => none
  | .releaseTimerExpiry _ => none
  | .pollTimerExpiry _ => none
  | .shutSent _ => none
  | .turnEnd _ => none
  | .replyTimerExpiry _ => none
  | .openReceived _ => none
  | .reply _ _ _ => none
  | .serviceReply _ _ _ => none
  | .badTelegram _ _ => none
  | .beacon _ _ _ _ _ _ => none
  | .holdTimerExpiry _ => none
  | .dwellTimerExpiry _ => none
  | .lock _ _ => none
  | .lockLoss _ => none
  | .characterReceived _ _ _ => none
  | .symbolReceived _ _ => none
  | .frameTurnedAway => none

/-- A well-formed command that a frame carries is the one its code, tag and parameters spell, and fits the frame (R163, 11.4); a
command that no frame carries is spelled by none. -/
def FrameRoundTrip.Statement (i : Instr) : Prop :=
  i.wellFormed = true →
    (∀ code tag ps, frameOf i = some (code, tag, ps) → requestOf code tag ps = i ∧ ps.length ≤ 198) ∧
      (frameOf i = none → ∀ code tag ps, requestOf code tag ps ≠ i)

/-- A request whose code the part assigns. -/
theorem frameRoundTrip_request {i : Instr} {code tag : Byte} {ps : List Byte} (hf : frameOf i = some (code, tag, ps))
    (hr : requestOf code tag ps = i) (hw : i.wellFormed = true → ps.length ≤ 198) : FrameRoundTrip.Statement i := by
  intro h
  refine ⟨?_, by simp [hf]⟩
  intro c t q hq
  rw [hf] at hq
  cases hq
  exact ⟨hr, hw h⟩

/-- Every request that a frame spells is carried by a frame. -/
theorem frameOf_requestOf (code tag : Byte) (ps : List Byte) : frameOf (requestOf code tag ps) ≠ none := by
  unfold requestOf
  split <;> simp [frameOf]

/-- An event that no frame carries. -/
theorem frameRoundTrip_event {i : Instr} (hf : frameOf i = none) : FrameRoundTrip.Statement i := by
  intro _
  refine ⟨by simp [hf], ?_⟩
  rintro - code tag ps rfl
  exact frameOf_requestOf code tag ps hf

/-- A code outside the assigned ones spells UNKNOWN. -/
theorem requestOf_unknown (code tag : Byte) (ps : List Byte) (h : assignedCodes.contains code.toNat = false) :
    requestOf code tag ps = .unknown code tag ps := by
  unfold requestOf
  split <;> first | rfl | (rename_i hc; rw [hc] at h; cases h)

theorem FrameRoundTrip.definePoint (tag : Byte) (ps : List Byte) : FrameRoundTrip.Statement (.definePoint tag ps) :=
  frameRoundTrip_request rfl rfl of_decide_eq_true

theorem FrameRoundTrip.clearPoint (tag : Byte) (ps : List Byte) : FrameRoundTrip.Statement (.clearPoint tag ps) :=
  frameRoundTrip_request rfl rfl of_decide_eq_true

theorem FrameRoundTrip.readPoints (tag : Byte) (ps : List Byte) : FrameRoundTrip.Statement (.readPoints tag ps) :=
  frameRoundTrip_request rfl rfl of_decide_eq_true

theorem FrameRoundTrip.setOutputs (tag : Byte) (ps : List Byte) : FrameRoundTrip.Statement (.setOutputs tag ps) :=
  frameRoundTrip_request rfl rfl of_decide_eq_true

theorem FrameRoundTrip.force (tag : Byte) (ps : List Byte) : FrameRoundTrip.Statement (.force tag ps) :=
  frameRoundTrip_request rfl rfl of_decide_eq_true

theorem FrameRoundTrip.release (tag : Byte) (ps : List Byte) : FrameRoundTrip.Statement (.release tag ps) :=
  frameRoundTrip_request rfl rfl of_decide_eq_true

theorem FrameRoundTrip.setPins (tag : Byte) (ps : List Byte) : FrameRoundTrip.Statement (.setPins tag ps) :=
  frameRoundTrip_request rfl rfl of_decide_eq_true

theorem FrameRoundTrip.defineInterlock (tag : Byte) (ps : List Byte) : FrameRoundTrip.Statement (.defineInterlock tag ps) :=
  frameRoundTrip_request rfl rfl of_decide_eq_true

theorem FrameRoundTrip.clearInterlock (tag : Byte) (ps : List Byte) : FrameRoundTrip.Statement (.clearInterlock tag ps) :=
  frameRoundTrip_request rfl rfl of_decide_eq_true

theorem FrameRoundTrip.readInterlock (tag : Byte) (ps : List Byte) : FrameRoundTrip.Statement (.readInterlock tag ps) :=
  frameRoundTrip_request rfl rfl of_decide_eq_true

theorem FrameRoundTrip.acknowledge (tag : Byte) (ps : List Byte) : FrameRoundTrip.Statement (.acknowledge tag ps) :=
  frameRoundTrip_request rfl rfl of_decide_eq_true

theorem FrameRoundTrip.readLine (tag : Byte) (ps : List Byte) : FrameRoundTrip.Statement (.readLine tag ps) :=
  frameRoundTrip_request rfl rfl of_decide_eq_true

theorem FrameRoundTrip.setLine (tag : Byte) (ps : List Byte) : FrameRoundTrip.Statement (.setLine tag ps) :=
  frameRoundTrip_request rfl rfl of_decide_eq_true

theorem FrameRoundTrip.restartLine (tag : Byte) (ps : List Byte) : FrameRoundTrip.Statement (.restartLine tag ps) :=
  frameRoundTrip_request rfl rfl of_decide_eq_true

theorem FrameRoundTrip.serviceOpen (tag : Byte) (ps : List Byte) : FrameRoundTrip.Statement (.serviceOpen tag ps) :=
  frameRoundTrip_request rfl rfl of_decide_eq_true

theorem FrameRoundTrip.serviceTransfer (tag : Byte) (ps : List Byte) : FrameRoundTrip.Statement (.serviceTransfer tag ps) :=
  frameRoundTrip_request rfl rfl of_decide_eq_true

theorem FrameRoundTrip.serviceClose (tag : Byte) (ps : List Byte) : FrameRoundTrip.Statement (.serviceClose tag ps) :=
  frameRoundTrip_request rfl rfl of_decide_eq_true

theorem FrameRoundTrip.setReporting (tag : Byte) (ps : List Byte) : FrameRoundTrip.Statement (.setReporting tag ps) :=
  frameRoundTrip_request rfl rfl of_decide_eq_true

theorem FrameRoundTrip.readChanges (tag : Byte) (ps : List Byte) : FrameRoundTrip.Statement (.readChanges tag ps) :=
  frameRoundTrip_request rfl rfl of_decide_eq_true

theorem FrameRoundTrip.reportHold (tag : Byte) (ps : List Byte) : FrameRoundTrip.Statement (.reportHold tag ps) :=
  frameRoundTrip_request rfl rfl of_decide_eq_true

theorem FrameRoundTrip.echo (tag : Byte) (ps : List Byte) : FrameRoundTrip.Statement (.echo tag ps) :=
  frameRoundTrip_request rfl rfl of_decide_eq_true

theorem FrameRoundTrip.readDevice (tag : Byte) (ps : List Byte) : FrameRoundTrip.Statement (.readDevice tag ps) :=
  frameRoundTrip_request rfl rfl of_decide_eq_true

theorem FrameRoundTrip.reset (tag : Byte) (ps : List Byte) : FrameRoundTrip.Statement (.reset tag ps) :=
  frameRoundTrip_request rfl rfl of_decide_eq_true

theorem FrameRoundTrip.start (tag : Byte) (ps : List Byte) : FrameRoundTrip.Statement (.start tag ps) :=
  frameRoundTrip_request rfl rfl of_decide_eq_true

theorem FrameRoundTrip.stop (tag : Byte) (ps : List Byte) : FrameRoundTrip.Statement (.stop tag ps) :=
  frameRoundTrip_request rfl rfl of_decide_eq_true

theorem FrameRoundTrip.enterSafe (tag : Byte) (ps : List Byte) : FrameRoundTrip.Statement (.enterSafe tag ps) :=
  frameRoundTrip_request rfl rfl of_decide_eq_true

theorem FrameRoundTrip.resume (tag : Byte) (ps : List Byte) : FrameRoundTrip.Statement (.resume tag ps) :=
  frameRoundTrip_request rfl rfl of_decide_eq_true

theorem FrameRoundTrip.setMonitor (tag : Byte) (ps : List Byte) : FrameRoundTrip.Statement (.setMonitor tag ps) :=
  frameRoundTrip_request rfl rfl of_decide_eq_true

theorem FrameRoundTrip.unknown (code tag : Byte) (ps : List Byte) :
    FrameRoundTrip.Statement (.unknown code tag ps) := by
  intro h
  have hw := h
  simp only [Instr.wellFormed, paramsFit, Bool.and_eq_true, Bool.not_eq_true', decide_eq_true_eq] at h
  exact frameRoundTrip_request rfl (requestOf_unknown code tag ps h.2) (fun _ => h.1) hw

theorem FrameRoundTrip.frameDiscard (cause : FrameFault) :
    FrameRoundTrip.Statement (.frameDiscard cause) :=
  frameRoundTrip_event rfl

theorem FrameRoundTrip.gap (idleBits : Nat) :
    FrameRoundTrip.Statement (.gap idleBits) :=
  frameRoundTrip_event rfl

theorem FrameRoundTrip.replyTransmit :
    FrameRoundTrip.Statement .replyTransmit :=
  frameRoundTrip_event rfl

theorem FrameRoundTrip.waitingReplyQueued :
    FrameRoundTrip.Statement .waitingReplyQueued :=
  frameRoundTrip_event rfl

theorem FrameRoundTrip.reportFrame :
    FrameRoundTrip.Statement .reportFrame :=
  frameRoundTrip_event rfl

theorem FrameRoundTrip.frameTransmitted :
    FrameRoundTrip.Statement .frameTransmitted :=
  frameRoundTrip_event rfl

theorem FrameRoundTrip.reportHoldExpiry :
    FrameRoundTrip.Statement .reportHoldExpiry :=
  frameRoundTrip_event rfl

theorem FrameRoundTrip.commandReset :
    FrameRoundTrip.Statement .commandReset :=
  frameRoundTrip_event rfl

theorem FrameRoundTrip.powerOnReset (rate : Fin 8) (parity : Fin 4) :
    FrameRoundTrip.Statement (.powerOnReset rate parity) :=
  frameRoundTrip_event rfl

theorem FrameRoundTrip.pinReset :
    FrameRoundTrip.Statement .pinReset :=
  frameRoundTrip_event rfl

theorem FrameRoundTrip.pinResetRelease (rate : Fin 8) (parity : Fin 4) :
    FrameRoundTrip.Statement (.pinResetRelease rate parity) :=
  frameRoundTrip_event rfl

theorem FrameRoundTrip.silenceExpiry :
    FrameRoundTrip.Statement .silenceExpiry :=
  frameRoundTrip_event rfl

theorem FrameRoundTrip.pinSample (levels : Word16) :
    FrameRoundTrip.Statement (.pinSample levels) :=
  frameRoundTrip_event rfl

theorem FrameRoundTrip.releaseTimerExpiry (entry : EntryIx) :
    FrameRoundTrip.Statement (.releaseTimerExpiry entry) :=
  frameRoundTrip_event rfl

theorem FrameRoundTrip.pollTimerExpiry (line : LineNo) :
    FrameRoundTrip.Statement (.pollTimerExpiry line) :=
  frameRoundTrip_event rfl

theorem FrameRoundTrip.shutSent (line : LineNo) :
    FrameRoundTrip.Statement (.shutSent line) :=
  frameRoundTrip_event rfl

theorem FrameRoundTrip.turnEnd (line : LineNo) :
    FrameRoundTrip.Statement (.turnEnd line) :=
  frameRoundTrip_event rfl

theorem FrameRoundTrip.replyTimerExpiry (line : LineNo) :
    FrameRoundTrip.Statement (.replyTimerExpiry line) :=
  frameRoundTrip_event rfl

theorem FrameRoundTrip.openReceived (line : LineNo) :
    FrameRoundTrip.Statement (.openReceived line) :=
  frameRoundTrip_event rfl

theorem FrameRoundTrip.reply (line : LineNo) (seq : Nibble) (body : List Byte) :
    FrameRoundTrip.Statement (.reply line seq body) :=
  frameRoundTrip_event rfl

theorem FrameRoundTrip.serviceReply (line : LineNo) (seq : Nibble) (payload : List Byte) :
    FrameRoundTrip.Statement (.serviceReply line seq payload) :=
  frameRoundTrip_event rfl

theorem FrameRoundTrip.badTelegram (line : LineNo) (cause : BadCause) :
    FrameRoundTrip.Statement (.badTelegram line cause) :=
  frameRoundTrip_event rfl

theorem FrameRoundTrip.beacon (line : LineNo) (seq : Nibble) (w0 w1 w2 w3 : Word16) :
    FrameRoundTrip.Statement (.beacon line seq w0 w1 w2 w3) :=
  frameRoundTrip_event rfl

theorem FrameRoundTrip.holdTimerExpiry (line : LineNo) :
    FrameRoundTrip.Statement (.holdTimerExpiry line) :=
  frameRoundTrip_event rfl

theorem FrameRoundTrip.dwellTimerExpiry (line : LineNo) :
    FrameRoundTrip.Statement (.dwellTimerExpiry line) :=
  frameRoundTrip_event rfl

theorem FrameRoundTrip.lock (line : LineNo) (bits : List Bool) :
    FrameRoundTrip.Statement (.lock line bits) :=
  frameRoundTrip_event rfl

theorem FrameRoundTrip.lockLoss (line : LineNo) :
    FrameRoundTrip.Statement (.lockLoss line) :=
  frameRoundTrip_event rfl

theorem FrameRoundTrip.characterReceived (value : Byte) (parityBit stopBit : Bool) :
    FrameRoundTrip.Statement (.characterReceived value parityBit stopBit) :=
  frameRoundTrip_event rfl

theorem FrameRoundTrip.symbolReceived (line : LineNo) (code : Code5) :
    FrameRoundTrip.Statement (.symbolReceived line code) :=
  frameRoundTrip_event rfl

theorem FrameRoundTrip.frameTurnedAway :
    FrameRoundTrip.Statement .frameTurnedAway :=
  frameRoundTrip_event rfl

end Sys2Proof.Laws
end

