-- ==== Sys2Proof/Laws/Requests.lean ====
section
/-! SUPPORT. What running a command can do, once for every meaning: the request wrapper, the events, and the transmitter's
choice. -/

namespace Sys2Proof.Machine

/-! ### Events -/

/-- Held in reset, a command changes nothing (R181). -/
theorem runCommand_inReset (f : State → State) {s : State} (h : s.dev.inReset = true) : runCommand f s = .next s := by
  simp [runCommand, h]

/-- Out of reset, a command ends with the transmitter's choice (R166). -/
theorem runCommand_running (f : State → State) {s : State} (h : s.dev.inReset = false) :
    runCommand f s = .next (f s).choose := by
  simp [runCommand, h]

/-- A command always answers a next state. -/
theorem runCommand_next (f : State → State) (s : State) : ∃ t, runCommand f s = .next t := by
  unfold runCommand
  split <;> exact ⟨_, rfl⟩

/-! ### Requests -/

/-- The state in which a taken request finds its owner is the one the framer and the silence monitor leave. -/
theorem restartSilence_toHunt (s : State) : s.toHunt.restartSilence = taken s := by
  unfold State.restartSilence taken silenceAfter State.toHunt State.setPort State.setDev
  by_cases h : s.dev.mode = .run ∧ s.dev.silenceLimit ≠ 0 <;> simp [h]

@[simp] theorem toHunt_accepts (s : State) : s.toHunt.port.accepts = s.port.accepts := rfl

/-- A taken request runs its owner and is answered as the owner says. -/
theorem runRequest_taken (code tag : Byte) (owner : State → State × Answer) {s : State} (h : Takes s) :
    runRequest code tag owner s
      = .next ((owner (taken s)).1.answer code tag (owner (taken s)).2).choose := by
  rw [runRequest, runCommand_running _ h.1]
  simp [requestWork, h.2, restartSilence_toHunt]

/-- A taken request that its owner refuses changes nothing but its reply. -/
theorem runRequest_refused (code tag : Byte) {owner : State → State × Answer} {s : State} {status : Status} (h : Takes s)
    (ho : owner (taken s) = refuse (taken s) status) : runRequest code tag owner s = onlyAnswers s code tag status [] := by
  have hr : (taken s).port.replies.length < 4 := by
    have := h.2
    simp only [Port.accepts, Bool.and_eq_true, decide_eq_true_eq] at this
    exact this.1
  rw [runRequest_taken _ _ _ h, ho]
  simp [refuse, State.answer, onlyAnswers, answered, Port.queueReply, hr, State.setPort]

/-- A taken request whose owner leaves the reply queue as it was is answered at its tail. -/
theorem runRequest_answered (code tag : Byte) {owner : State → State × Answer} {s u : State} {status : Status}
    {data : List Byte} (h : Takes s) (ho : owner (taken s) = (u, .reply status data))
    (hu : u.port.replies = s.port.replies) :
    runRequest code tag owner s = .next (answered u code tag status data).choose := by
  have hr : u.port.replies.length < 4 := by
    have := h.2
    simp only [Port.accepts, Bool.and_eq_true, decide_eq_true_eq] at this
    rw [hu]
    exact this.1
  rw [runRequest_taken _ _ _ h, ho]
  simp [State.answer, answered, Port.queueReply, hr, State.setPort]

/-- An intact frame that acceptance turns away is counted, and its owner sees nothing of it. -/
theorem runRequest_turnedAway (code tag : Byte) (owner : State → State × Answer) {s : State} (hr : s.dev.inReset = false)
    (h : s.port.accepts = false) : runRequest code tag owner s = .next s.toHunt.turnAway.choose := by
  rw [runRequest, runCommand_running _ hr]
  simp [requestWork, h]

/-! ### The transmitter -/

/-- A transmitter that is sending makes no choice. -/
theorem choose_busy {s : State} (h : s.port.transmitter ≠ .idle) : s.choose = s := by
  have h1 : s.startReply = s := by
    unfold State.startReply
    split
    · rename_i ht _
      exact absurd ht h
    · rfl
  rw [State.choose, h1]
  unfold State.startReport
  split
  · rename_i ht _
    exact absurd ht h
  · rfl

/-- An IDLE transmitter with no claim stays IDLE. -/
theorem choose_quiet {s : State} (hr : s.port.replies = []) (hc : s.reportClaim = false) : s.choose = s := by
  have h1 : s.startReply = s := by
    unfold State.startReply
    split
    · rename_i hq
      rw [hr] at hq
      cases hq
    · rfl
  rw [State.choose, h1]
  unfold State.startReport
  split
  · simp [hc]
  · rfl

/-- Serving a waiting reply leaves the transmitter as it was. -/
@[simp] theorem serveWaiting_transmitter (s : State) : s.serveWaiting.port.transmitter = s.port.transmitter := by
  unfold State.serveWaiting
  split
  · split <;> try rfl
    split <;> rfl
  · rfl

/-- An IDLE transmitter takes the reply at the head of the queue first. -/
theorem choose_reply {s : State} {r : Reply} {rest : List Reply} (ht : s.port.transmitter = .idle)
    (hr : s.port.replies = r :: rest) :
    s.choose = (s.setPort { s.port with transmitter := .reply r, replies := rest }).serveWaiting := by
  have h1 : s.startReply = (s.setPort { s.port with transmitter := .reply r, replies := rest }).serveWaiting := by
    simp [State.startReply, ht, hr]
  rw [State.choose, h1]
  unfold State.startReport
  split
  · rename_i hq _
    simp at hq
  · rfl

end Sys2Proof.Machine
end

