-- ==== Sys2Proof/Tests/Slice0.lean ====
section
/-! SUPPORT. The tests: ill-formed commands, figures the manual works out, and for every statement a concrete state and operands
that meet its hypotheses. -/

open Sys2Proof Sys2Proof.Machine

namespace Sys2Proof.Tests

/-! ### Ill-formed commands -/

/-- 199 parameter bytes are one more than a frame holds (11.4). -/
theorem test_longRequestsAreIllFormed (ps : List Byte) (h : ps.length = 199) : ∀ f ∈ [Instr.definePoint 1, .clearPoint 1,
    .readPoints 1, .setOutputs 1, .force 1, .release 1, .setPins 1, .defineInterlock 1, .clearInterlock 1, .readInterlock 1,
    .acknowledge 1, .readLine 1, .setLine 1, .restartLine 1, .serviceOpen 1, .serviceTransfer 1, .serviceClose 1,
    .setReporting 1, .readChanges 1, .reportHold 1, .echo 1, .readDevice 1, .reset 1, .start 1, .stop 1, .enterSafe 1,
    .resume 1, .setMonitor 1, .unknown 0x50 1], (f ps).wellFormed = false := by
  simp [Instr.wellFormed, paramsFit, h]

theorem test_assignedCodeIsIllFormed : (Instr.unknown 0x23 1 []).wellFormed = false := by decide

theorem test_longTelegramsAreIllFormed :
    (Instr.reply .line0 0 (List.replicate 33 0)).wellFormed = false ∧
      (Instr.serviceReply .line0 0 (List.replicate 25 0)).wellFormed = false := by decide

/-! ### Figures of the manual -/

/-- The four rows of R182. -/
theorem test_checkWords : checkWord [0x13, 0xA5, 0x0F] = 0xDD5A ∧ checkWord [0xF0, 0xF0, 0x20, 0x20] = 0xEEEE ∧
    checkWord [0xFF, 0xFF] = 0xFFFF ∧ checkWord [0x00, 0x00] = 0xFFFF := by decide

/-- The table of R30. -/
theorem test_roundedQuotients : [1484800, 1485440, 1484160, 314400, -285600, -640, -6400, 127, 128, -128].map roundQuotient
    = [5800, 5803, 5798, 1228, -1116, -3, -25, 0, 1, -1] := by decide

/-- The conversions of R52, R113 and R179. -/
theorem test_ticks : [1, 100, 250, 500, 2000, 50, 1000, 5000].map ticksOfMs
      = [33, 3277, 8192, 16384, 65536, 1639, 32768, 163840] ∧
    [100, 400, 500, 1000, 5000].map ticksOfUs = [4, 14, 17, 33, 164] := by decide

/-- At 1000 µs the first cycles of 12.2 end 32, 65, 98 and 131 ticks after the timer starts. -/
theorem test_pollCycles : (List.range 4).map (fun n => (Line.loadCycle^[n] Line.reset.startPoll).pollTimer)
    = [some 32, some 33, some 33, some 33] := by decide

/-- The ECHO of 11.4 and its reply. -/
theorem test_echoFrame : frameBytes 0x01 0x21 [] = [0xC5, 0x02, 0x01, 0x21, 0xDC, 0xFE] ∧
    (⟨0x81, 0x21, .ok, []⟩ : Reply).bytes = [0xC5, 0x03, 0x81, 0x21, 0x00, 0xDB, 0x7E] := by decide

/-- The POLL that 11.3 works to symbols. -/
theorem test_pollSymbols : ((⟨.poll, 9, [0x05]⟩ : Telegram).turn.drop 2).map codeOf
      = [0b11000, 0b00110, 0b10010, 0b00101, 0b01100, 0b11010, 0b01101, 0b11100, 0b10011, 0b00011, 0b10101, 0b10101] ∧
    pairCode (some .reversed) 0b00110 = 0b11001 := by decide

/-- The bits of 11.3's OPEN and of a REVERSED line's FILL as they follow in time, and the 12 symbol times of a POLL with no DO bytes
(R95, R105). -/
theorem test_pairBits : codeBits (codeOf .open) = [true, true, false, false, false] ∧
    ((⟨.poll, 9, []⟩ : Telegram).pairBits (some .reversed)).take 5 = [false, true, false, true, false] ∧
    ((⟨.poll, 9, []⟩ : Telegram).pairBits (some .normal)).length = 5 * 12 := by decide

/-- The character of 0xC5 with its parity, and how many bits a character has under each setting (R160). -/
theorem test_characterLayout :
    characterLayout .even 0xC5 = [false, true, false, true, false, false, false, true, true, false, true] ∧
      ∀ p ∈ [Parity.none, .even, .odd], (characterLayout p 0xC5).length = characterBits p := by decide

/-- The rows of R106: only a turn past its OPEN and before its SHUT has an ABORT sent, with two FILLs after it. -/
theorem test_cutSends : let t : Telegram := ⟨.poll, 5, []⟩
    [Sender.idle, .waiting t, .sending t (.leadIn 1), .sending t .body, .sending t .tail, .aborting].map Sender.cutSends
      = [[], [], [], [.abort, .fill, .fill], [], []] := by decide

/-! ### `Safe` on concrete states -/

/-- A property of every row of a table is decided row by row. -/
abbrev decRows {α : Type} {P : α → Prop} (d : ∀ a, Decidable (P a)) (t : List α) : Decidable (∀ a ∈ t, P a) :=
  haveI := d
  inferInstance

/-- A property of the fields of a kind is decided kind by kind. -/
abbrev decDo {P : DoFields → Prop} (d : ∀ f, Decidable (P f)) : ∀ b : PointBody,
    Decidable (match b with | .dout f => P f | _ => True)
  | .dout f => d f
  | .di _ => .isTrue trivial
  | .ai _ => .isTrue trivial
  | .derived _ => .isTrue trivial

/-- A property of the fields of a SUM or DIFF, and another of every other kind. -/
abbrev decDerived {P : DerivedFields → Prop} {D : Prop} [Decidable D] (d : ∀ f, Decidable (P f)) : ∀ b : PointBody,
    Decidable (match b with | .derived f => P f | _ => D)
  | .derived f => d f
  | .di _ => inferInstanceAs (Decidable D)
  | .dout _ => inferInstanceAs (Decidable D)
  | .ai _ => inferInstanceAs (Decidable D)

/-- `TablesInv` is decided on a concrete state. -/
abbrev decTables (s : State) : Decidable (TablesInv s) := by unfold TablesInv; infer_instance
/-- `QueueInv` is decided on a concrete state. -/
abbrev decQueue (s : State) : Decidable (QueueInv s) := by unfold QueueInv; infer_instance
/-- `PortInv` is decided on a concrete state. -/
abbrev decPort (s : State) : Decidable (PortInv s) := by unfold PortInv; infer_instance

/-- A force value that suits its point. -/
abbrev decSuits (f : ForceEntry) (r : Point) : Decidable (f.suits r) := by
  unfold ForceEntry.suits
  cases r.analog? <;> simp only <;> infer_instance

/-- A property of what an option holds. -/
abbrev decSome {α : Type} {P : α → Prop} (d : ∀ a, Decidable (P a)) : ∀ o : Option α, Decidable (∀ a, o = some a → P a)
  | none => .isTrue (by simp)
  | some a =>
    match d a with
    | .isTrue h => .isTrue (by rintro _ ⟨⟩; exact h)
    | .isFalse h => .isFalse fun k => h (k a rfl)

/-- An option that holds something with a property. -/
abbrev decHolds {α : Type} {P : α → Prop} (d : ∀ a, Decidable (P a)) : ∀ o : Option α,
    Decidable (∃ a, o = some a ∧ P a)
  | none => .isFalse (by simp)
  | some a =>
    match d a with
    | .isTrue h => .isTrue ⟨a, rfl, h⟩
    | .isFalse h => .isFalse (by rintro ⟨_, ⟨⟩, k⟩; exact h k)

/-- `ForceInv` is decided on a concrete state. -/
abbrev decForce (s : State) : Decidable (ForceInv s) :=
  haveI := decRows (fun f => decHolds (decSuits f) (s.point? f.point)) s.forces
  by unfold ForceInv; infer_instance

/-- `EntryInv` is decided on a concrete state. -/
abbrev decEntry (s : State) : Decidable (EntryInv s) :=
  haveI : ∀ e : Entry, Decidable e.sound := fun e => by unfold Entry.sound; infer_instance
  by unfold EntryInv; infer_instance

/-- `LineInv` is decided on a concrete state. -/
abbrev decLine (s : State) : Decidable (LineInv s) :=
  haveI : ∀ L : Line, Decidable (L.sound s.dev.mode) := fun L => by
    unfold Line.sound LineSettings.inRange; infer_instance
  by unfold LineInv; infer_instance

/-- `GateInv` is decided on a concrete state. -/
abbrev decGate (s : State) : Decidable (GateInv s) :=
  decRows (fun e : PointId × Point =>
    decDo (P := fun f => f.effective = outputRule s e.1 e.2 f) (fun _ => inferInstance) e.2.body) s.points

/-- Fields in their ranges. -/
abbrev decBody : ∀ b : PointBody, Decidable b.inRange
  | .di f => by unfold PointBody.inRange; infer_instance
  | .dout f => by unfold PointBody.inRange; infer_instance
  | .ai f => by unfold PointBody.inRange Analog.inRange; infer_instance
  | .derived f => by unfold PointBody.inRange Analog.inRange; infer_instance

/-- `PointInv` is decided on a concrete state. -/
abbrev decPoint (s : State) : Decidable (PointInv s) :=
  decRows (fun e => haveI := decBody e.2.body; by unfold Point.sound; infer_instance) s.points

/-- `LiveInv` is decided on a concrete state. -/
abbrev decLive (s : State) : Decidable (LiveInv s) :=
  haveI := decRows (fun e : PointId × Point =>
    decDerived (D := True) (P := fun f => s.derivedCurrent e.2 f) (fun _ => by unfold State.derivedCurrent; infer_instance)
      e.2.body)
    s.points
  by unfold LiveInv; infer_instance

/-- `ModeInv` is decided on a concrete state. -/
abbrev decMode (s : State) : Decidable (ModeInv s) :=
  haveI := decRows (fun e : PointId × Point =>
    decDo (P := fun f => f.held.isSome = true ↔ s.dev.mode = .safe ∧ s.dev.safeAction = .hold) (fun _ => inferInstance)
      e.2.body) s.points
  by unfold ModeInv; infer_instance

/-- `Safe` is decided on a concrete state. -/
abbrev decSafe (s : State) : Decidable (Safe s) :=
  haveI := decTables s; haveI := decQueue s; haveI := decPort s; haveI := decForce s; haveI := decEntry s
  haveI := decLine s; haveI := decGate s; haveI := decPoint s; haveI := decLive s; haveI := decMode s
  by unfold Safe; infer_instance

theorem safe_of {s : State} (h : (decSafe s).decide = true) : Safe s :=
  @of_decide_eq_true _ (decSafe s) h


theorem lines_of {s : State} (h : (decLine s).decide = true) : LineInv s :=
  @of_decide_eq_true _ (decLine s) h

/-- A property of what two options hold, the second read from the first. -/
abbrev decHolds₂ {α β : Type} {g : α → Option β} {P : α → β → Prop} (d : ∀ a b, Decidable (P a b)) (o : Option α) :
    Decidable (∃ a b, o = some a ∧ g a = some b ∧ P a b) :=
  haveI : Decidable (∃ a, o = some a ∧ ∃ b, g a = some b ∧ P a b) := decHolds (fun a => decHolds (d a) (g a)) o
  decidable_of_iff (∃ a, o = some a ∧ ∃ b, g a = some b ∧ P a b)
    ⟨fun ⟨a, h, b, k⟩ => ⟨a, b, h, k⟩, fun ⟨a, b, h, k⟩ => ⟨a, h, b, k⟩⟩

/-- A failing check of a point is decided on a concrete state. -/
abbrev decPointFails (s : State) (p : PointId) (r : Point) : ∀ n, Decidable (pointFails s p r n)
  | 1 => decHolds₂ (fun _ _ => by cases r.body <;> dsimp only <;> infer_instance) r.place
  | 2 => decHolds (fun _ => @instDecidableAnd _ _ inferInstance (by cases r.body <;> dsimp only <;> infer_instance)) r.place
  | 3 => inferInstanceAs
      (Decidable (r.body.isDerived = false ∧ ∃ d ∈ s.points, d.1 < p ∧ d.2.place = r.place ∧ d.2.body.code = r.body.code))
  | 4 => decDerived (P := fun f => s.isAi f.sourceA = false ∨ s.isAi f.sourceB = false) (fun _ => inferInstance) r.body
  | 0 | _ + 5 => .isFalse id

/-- A failing check of an entry at a term is decided on a concrete state. -/
abbrev decEntryFails (s : State) (e : Entry) (m : Nat) : ∀ n, Decidable (entryFails s e n m)
  | 5 => inferInstanceAs (Decidable (s.isOutput e.target = false ∧ m = 0))
  | 6 => decHolds (fun _ => inferInstance) _
  | 7 => decHolds (fun _ => decSome (fun _ => inferInstance) _) _
  | 8 => decHolds (fun _ => by infer_instance) _
  | 0 | 1 | 2 | 3 | 4 | _ + 9 => .isFalse id

/-- The checks of START that pass on the eight reasons and on the terms an entry has pass. -/
theorem startFits_of {s : State}
    (hp : (decRows (fun e => @List.decidableBAll _ _ (fun n => @instDecidableNot _ (decPointFails s e.1 e.2 n)) [1, 2, 3, 4])
      s.points).decide = true)
    (he : (decRows (fun e => @List.decidableBAll _ _ (fun m => @List.decidableBAll _ _
      (fun n => @instDecidableNot _ (decEntryFails s e.2 m n)) [5, 6, 7, 8]) (List.range (e.2.terms.length + 1)))
      s.entries).decide = true) : StartFits s := by
  have hp := @of_decide_eq_true _ (_) hp
  have he := @of_decide_eq_true _ (_) he
  refine ⟨fun e h n k => ?_, fun e h n m k => ?_⟩
  · match n, k with
    | 1, k => exact hp e h 1 (by simp) k
    | 2, k => exact hp e h 2 (by simp) k
    | 3, k => exact hp e h 3 (by simp) k
    | 4, k => exact hp e h 4 (by simp) k
  · have hm : m < e.2.terms.length + 1 := by
      match n, k with
      | 5, k => exact k.2 ▸ Nat.succ_pos _
      | 6, ⟨_, k, _⟩ => exact Nat.lt_succ_of_lt (List.getElem?_eq_some_iff.mp k).1
      | 7, ⟨_, k, _⟩ => exact Nat.lt_succ_of_lt (List.getElem?_eq_some_iff.mp k).1
      | 8, ⟨_, k, _⟩ => exact Nat.lt_succ_of_lt (List.getElem?_eq_some_iff.mp k).1
    have he := he e h m (List.mem_range.mpr hm)
    match n, k with
    | 5, k => exact he 5 (by simp) k
    | 6, k => exact he 6 (by simp) k
    | 7, k => exact he 7 (by simp) k
    | 8, k => exact he 8 (by simp) k

/-- A point that fails a check of START. -/
theorem not_startFits_of {s : State} (n : Nat)
    (h : (@List.decidableBEx _ _ (fun e => decPointFails s e.1 e.2 n) s.points).decide = true) : ¬ StartFits s := by
  obtain ⟨e, he, k⟩ := @of_decide_eq_true _ (_) h
  exact fun f => f.1 e he n k

/-! ### The states of the tests -/

/-- A point record with its qualification over. -/
def goodPoint (st : Station) (ch : Nat) (body : PointBody) : Point :=
  ⟨some ⟨st, ch⟩, true, .good, true, false, Pending.clear, 0, body⟩

/-- A line locked and polling. -/
def pollingLine : Line :=
  { Line.reset with
    settings := { LineSettings.reset with enable := true, doBytes := 1, aiChannels := 1, expectedType := 0x41 }
    state := .operate, lock := .locked, lockedRate := some .r2M, polarity := some .normal, pollTimer := some 20
    lastAttached := some ⟨0x41, 7⟩, lastBeacon := some ⟨0x41, 7⟩ }

/-- Line 1 awaits a reply with a window pending. -/
def awaitingLine : Line :=
  { pollingLine with
    exchange := some ⟨1, 5, .awaiting⟩, sequence := 6, replyTimer := some 3, service := .pending }

/-- Line 2 sends a SERVICE telegram in its window. -/
def servedLine : Line :=
  { pollingLine with
    state := .service, service := .granted, pollTimer := none, holdTimer := some 9
    transfer := some ⟨7, 4, [1], .sending⟩, sequence := 5, sender := .sending ⟨.service, 4, [1]⟩ .body }

/-- A part in RUN: a contact, an output that its interlock permits, a load, an output held down by a latched and a releasing
interlock, and a sum. -/
def running : State :=
  { State.reset with
    dev := { State.reset.dev with mode := .run, silenceLimit := 100, silenceTimer := some 7, tick := 1000 }
    pins := { State.reset.pins with direction := 0x0100, timer := some 3 }
    points := [
      (0, goodPoint .trolley 0 (.di ⟨1, some true, 1, true⟩)),
      (1, goodPoint .trolley 8 (.dout ⟨false, true, true, true, 0, none⟩)),
      (2, goodPoint .sprA 0 (.ai ⟨10, 256, 0, 2, 2, ⟨-10, 100, 2, 50, .none, 50⟩⟩)),
      (3, goodPoint .cab 0 (.dout ⟨true, false, true, true, 0, none⟩)),
      (4, ⟨none, true, .good, false, false, Pending.clear, 0, .derived ⟨.sum, 2, 2, ⟨-5, 90, 2, 90, .over, 90⟩⟩⟩)]
    entries := [
      (0, ⟨1, true, 10, [⟨0, .isOn, 0, 0, .latchTrue⟩], .permit, .none, none, Pending.clear⟩),
      (1, ⟨3, true, 10, [⟨0, .isOn, 0, 0, .latchTrue⟩], .latched, .none, none, Pending.clear⟩),
      (2, ⟨3, false, 10, [⟨2, .above, 10, 5, .latchTrue⟩], .releasing, .none, some 3, Pending.clear⟩)]
    lines := ⟨pollingLine, awaitingLine, servedLine⟩ }

/-- The state a command leaves. -/
def after (c : Instr) (s : State) : State :=
  match exec c s with
  | .next t => t
  | _ => s

/-- `running` brought to SAFE. -/
def held : State := after (.enterSafe 1 []) running
/-- `running` stopped. -/
def stopped : State := after (.stop 1 []) running
/-- `running` with another line 0. -/
def withLine0 (L : Line) : State := running.setLine .line0 L

theorem safe_running : Safe running := safe_of (by decide)
theorem safe_held : Safe held := safe_of (by decide)
theorem safe_stopped : Safe stopped := safe_of (by decide)

theorem takes_states : Takes State.reset ∧ Takes running ∧ Takes held ∧ Takes stopped :=
  ⟨⟨rfl, rfl⟩, ⟨rfl, rfl⟩, ⟨rfl, rfl⟩, ⟨rfl, rfl⟩⟩

theorem modes_of_states : State.reset.dev.mode = .config ∧ running.dev.mode = .run ∧ held.dev.mode = .safe ∧
    stopped.dev.mode = .config := by decide

/-- What holds of every row of the table holds of every point found in it. -/
theorem rows_of {s : State} {Q : PointId → Point → Prop} (h : ∀ e ∈ s.points, Q e.1 e.2) :
    ∀ p r, s.point? p = some r → Q p r :=
  fun _ _ hr => h _ (tableGet_mem hr)

/-! ### Commands on these states -/

/-- The output that its interlock permits falls when its contact opens (R50, R54, R59). -/
theorem test_contactOpens : ((after (.pinSample 0x0100) running).point? 1).map Point.ownValue = some 0 ∧
    ((after (.pinSample 0x0100) running).entry? 0).map Entry.state = some .latched := by decide

/-- In its window, line 2's SERVICE TRANSFER is answered CLOSED before the SERVICE CLOSE (R88). -/
theorem test_closeEndsTransfer : ((after (.serviceClose 9 [2]) running).port.transmitter,
      (after (.serviceClose 9 [2]) running).port.replies)
    = (Transmitter.reply ⟨0xB4, 7, .closed, []⟩, [⟨0xB5, 9, .ok, []⟩]) := by decide

/-! ### Witnesses: the step and the resets -/

/-- `running` with the silence timer and the hold timer of line 2 at their end. -/
def expiring : State :=
  { running with
    dev := { running.dev with silenceTimer := some 0 }
    lines := { running.lines with line2 := { servedLine with holdTimer := some 0 } } }

/-- A part with no timer at its end, one with two, and one held in reset. -/
theorem witness_EmptyQueueIsOneTick : (running.pending = [] ∧ running.dev.inReset = false ∧ ¬ ∃ c, timerEnded running c) ∧
    (expiring.pending = [] ∧ expiring.dev.inReset = false ∧ timerEnded expiring .silenceExpiry ∧
      timerEnded expiring (.holdTimerExpiry .line2)) ∧
    (after .pinReset running).pending = [] ∧ (after .pinReset running).dev.inReset = true := by
  refine ⟨⟨rfl, rfl, ?_⟩, ⟨rfl, rfl, rfl, rfl⟩, by decide⟩
  rintro ⟨c, h⟩
  cases c <;> simp only [timerEnded] at h
  case releaseTimerExpiry =>
    obtain ⟨e, he, -, k⟩ := h
    exact (by decide : ∀ e ∈ running.entries, e.2.timer ≠ some 0) e he k
  all_goals first | exact absurd h (by decide) | (rename_i l; cases l <;> exact absurd h (by decide))

/-- A timer that has reached its end and is loaded afresh before its expiry does not expire (R53, R179). -/
theorem test_restartedMonitorDoesNotExpire :
    (after (.echo 1 []) expiring).dev.silenceTimer = some 3277 ∧
      (after (.echo 1 []) expiring).nextExpiry = some (.holdTimerExpiry .line2) := by decide

theorem witness_ResetsLeave : (after .pinReset running).dev.inReset = true ∧ actsInReset .commandReset = false ∧
    running.dev.inReset = false := by decide

theorem witness_ResetIsSafe : running.dev.inReset = false ∧
    ∀ c ∈ [Instr.powerOnReset 7 3, .pinReset, .commandReset], ∃ t, exec c running = .next t := by
  refine ⟨rfl, ?_⟩
  simp only [List.forall_mem_cons]
  exact ⟨Exists.intro _ rfl, Exists.intro _ rfl, Exists.intro _ rfl, fun _ h => by cases h⟩

/-- The hypotheses of the six statements on what every step keeps, with an opening contact at the front of the queue. -/
theorem witness_StepKeepsSafe : Safe { running with pending := [.pinSample 0x0100] } ∧
    ∃ t, step { running with pending := [.pinSample 0x0100] } = .next t :=
  ⟨safe_of (by decide), _, rfl⟩

theorem witness_OutputsAreReleasedOnlyByPermits : Safe running ∧ ∃ t r f, step running = .next t ∧ t.point? 1 = some r ∧
    r.body = .dout f ∧ f.effective ≠ f.fail :=
  ⟨safe_running, _, _, _, rfl, rfl, rfl, by decide⟩

/-! ### Witnesses: requests in general -/

theorem witness_FramesAreTurnedAway : isFrame (.echo 1 []) = true ∧ (after (.reset 1 []) running).dev.inReset = false ∧
    (after (.reset 1 []) running).port.accepts = false := by decide

/-- Each of the four clauses, on a part in another mode than the requests take. -/
theorem witness_RequestsAreRefusedByMode : Takes running ∧ running.dev.mode ≠ .config ∧ Takes held ∧ held.dev.mode ≠ .run ∧
    Takes State.reset ∧ State.reset.dev.mode = .config ∧ running.dev.mode ≠ .safe :=
  ⟨⟨rfl, rfl⟩, by decide, ⟨rfl, rfl⟩, by decide, ⟨rfl, rfl⟩, by decide, by decide⟩

/-- A length one away from each clause's own, on the part that reaches the check. -/
theorem witness_RequestsAreRefusedByLength : Takes State.reset ∧ State.reset.dev.mode = .config ∧ Takes running ∧
    running.dev.mode = .run ∧ (∀ ps : List Byte, ps.length = 198 → 197 < ps.length) ∧
    (∀ n ∈ [2, 1, 4, 0, 3, 19, 6, 18, 13], (List.replicate (n + 1) (0 : Byte)).length ≠ n) ∧
    ([0] : List Byte).length < 2 ∧ (byteAt [0, 4, 0, 0, 0, 0] 1).toNat = 4 ∧ ([0, 4, 0, 0, 0, 0] : List Byte).length ≠ 13 ∧
    (byteAt [0, 0, 0, 0, 0, 8] 5).toNat = 8 ∧ ([0, 0, 0, 0, 0, 8] : List Byte).length ≠ 6 + 6 * 8 ∧
    32 < (List.replicate 34 (0 : Byte)).length ∧ (List.replicate 31 (0 : Byte)).length % 2 = 1 ∧
    25 < (List.replicate 26 (0 : Byte)).length :=
  ⟨⟨rfl, rfl⟩, by decide, ⟨rfl, rfl⟩, rfl, fun _ h => h ▸ by decide, by decide⟩

/-- `running` with a full Force List. -/
def fullForces : State := { running with forces := List.replicate 16 ⟨2, 0, .none⟩ }

theorem witness_RequestsAreRefusedByOperand :
    48 ≤ (48 : Byte).toNat ∧ 3 ≤ (3 : Byte).toNat ∧ running.entry? 47 = none ∧ State.reset.entry? 0 = none ∧
    running.point? 255 = none ∧ State.reset.point? 0 = none ∧
    (∃ r, running.point? 0 = some r ∧ r.analog? = none ∧ (2 : Word16) ≠ 0 ∧ (2 : Word16) ≠ 1) ∧
    (Takes fullForces ∧ ∃ r, fullForces.point? 3 = some r ∧ fullForces.forceOf 3 = none ∧ 16 ≤ fullForces.forces.length) ∧
    (running.isOutput 0 = false ∧ running.isOutput 1 = true ∧ running.isOutput 3 = true ∧ 2 ≤ (2 : Byte).toNat) ∧
    ((withLine0 Line.reset).line .line0).state = .off ∧ ((withLine0 Line.reset).line .line0).service = .none ∧
    (running.line .line1).service ≠ .granted ∧
    ((running.line .line2).service = .granted ∧ (running.line .line2).transfer ≠ none) ∧
    (16 < (17 : Byte).toNat ∧ (0 : Byte).toNat = 0 ∧ 256 < (255 : Byte).toNat + (2 : Byte).toNat) ∧
    ∃ x ∈ ([1, 0, 2, 0] : List Byte), 2 ≤ x.toNat :=
  ⟨by decide, by decide, rfl, rfl, rfl, rfl, ⟨_, rfl, by decide⟩, ⟨⟨rfl, rfl⟩, _, rfl, by decide⟩, by decide⟩

/-! ### Witnesses: points, pins and forces -/

/-- The first and the last channel of each station, the narrowest limits, and the least value each refusal names. -/
theorem witness_DefinesPoints : Takes State.reset ∧ State.reset.dev.mode = .config ∧ TablesInv State.reset ∧
    QueueInv State.reset ∧
    15 ≤ (if Station.trolley = .trolley then 15 else 63) ∧ 63 ≤ (if Station.cab = .trolley then 15 else 63) ∧
    Station.sprB ≠ .trolley ∧ (0 : Word16).toInt < (1 : Word16).toInt ∧ (0x8000 : Word16).toInt < (0x7FFF : Word16).toInt ∧
    4 ≤ (4 : Byte).toNat ∧ 15 < (16 : Byte).toNat ∧ 63 < (64 : Byte).toNat ∧ 2 ≤ (2 : Byte).toNat ∧ 3 ≤ (3 : Byte).toNat ∧
    7 < (8 : Byte).toNat ∧ (0x7FFF : Word16).toInt ≤ (0x7FFF : Word16).toInt ∧ 5 ≤ (5 : Byte).toNat :=
  ⟨⟨rfl, rfl⟩, rfl, (safe_of (by decide) : Safe State.reset).1, (safe_of (by decide) : Safe State.reset).2.1, by decide⟩

theorem witness_ClearsRecords : Takes stopped ∧ stopped.dev.mode = .config ∧ TablesInv stopped ∧ QueueInv stopped ∧
    stopped.point? 4 ≠ none ∧ stopped.hasRecord (.point 4) = true ∧ stopped.entry? 0 ≠ none :=
  ⟨⟨rfl, rfl⟩, by decide, safe_stopped.1, safe_stopped.2.1, by decide⟩

/-- The cleared point's record leaves a full queue, the others close up, and the marked device is admitted (R152, R153). -/
theorem test_clearAdmits :
    let record := fun p : PointId => (⟨.point p, .point .lost false .none 0, 1, 0⟩ : Record)
    let full := { stopped with
      dev := { stopped.dev with pending := ⟨true, 3⟩ }, queue := ((List.finRange 256).take 64).map record }
    (after (.clearPoint 1 [0]) full).queue = (((List.finRange 256).take 64).map record).tail
        ++ [⟨.device, (.device .config stopped.dev.lastCause stopped.dev.safeAction), 3, full.dev.tick⟩] ∧
      (after (.clearPoint 1 [0]) full).markedKeys = [] := by decide

theorem witness_ReadsPoints : Takes running ∧ 1 ≤ 16 ∧ 16 ≤ 16 ∧ 240 + 16 ≤ 256 ∧ running.point? 240 = none ∧
    (∃ r, running.point? 0 = some r ∧ r.forced = false) ∧
    ∃ r f, (after (.force 1 [0, 0, 0]) running).point? 0 = some r ∧ r.forced = true ∧
      (after (.force 1 [0, 0, 0]) running).forceOf 0 = some f :=
  ⟨⟨rfl, rfl⟩, by decide, by decide, by decide, rfl, ⟨_, rfl, rfl⟩, _, _, rfl, rfl, rfl⟩

theorem witness_SetsOutputs : Takes running ∧ running.dev.mode = .run ∧ TablesInv running ∧
    (List.replicate 16 ((1 : PointId), false)).length = 16 ∧
    ∀ x ∈ List.replicate 16 ((1 : PointId), false), running.isOutput x.1 = true :=
  ⟨⟨rfl, rfl⟩, rfl, safe_running.1, rfl, fun _ hx => List.eq_of_mem_replicate hx ▸ rfl⟩

/-- Every clause of what a pin drives: P0 IN, P8 with its output, P15 OUT with none. -/
theorem witness_SetsPins : Takes stopped ∧ stopped.dev.mode = .config ∧ ([0, 0, 0] : List Byte).length ≠ 4 ∧ Takes running ∧
    running.dev.mode ≠ .config ∧ TablesInv running ∧ running.pins.direction.getLsbD 0 = false ∧
    running.pins.direction.getLsbD 8 = true ∧
    (∃ r f, running.point? 1 = some r ∧ r.place = some ⟨.trolley, 8⟩ ∧ r.body = .dout f ∧
      ∀ q r' f', q < 1 → running.point? q = some r' → r'.body = .dout f' → r'.place ≠ some ⟨.trolley, 8⟩) ∧
    (GateInv stopped ∧ ∃ r, stopped.point? 1 = some r ∧ r.place = some ⟨.trolley, 8⟩) ∧
    ({ running with pins := ⟨0xFFFF, 0, 0, some 3⟩ } : State).pins.direction.getLsbD 15 = true ∧
    ∀ p r f, running.point? p = some r → r.body = .dout f → r.place ≠ some ⟨.trolley, 15⟩ := by
  refine ⟨⟨rfl, rfl⟩, by decide, by decide, ⟨rfl, rfl⟩, by decide, safe_running.1, by decide, by decide,
    ⟨_, _, rfl, rfl, rfl, ?_⟩, ⟨safe_stopped.2.2.2.2.2.2.1, _, rfl, by decide⟩, by decide, ?_⟩
  · intro q r' f' hq hr
    obtain rfl : q = 0 := Fin.ext (by have := Fin.lt_def.mp hq; simp at this; omega)
    cases hr
    intro h
    cases h
  · intro p r f hr _
    exact rows_of (Q := fun _ r => r.place ≠ some ⟨.trolley, 15⟩) (by decide) p r hr

/-- A contact, an analog point at each end of its limits and beyond, and a point already forced. -/
theorem witness_ForcesPoints : Takes running ∧ running.dev.mode = .run ∧ Safe running ∧
    (∃ r, running.point? 0 = some r ∧ r.analog? = none ∧ running.forceOf 0 = none ∧ running.forces.length < 16) ∧
    (∃ r a, running.point? 2 = some r ∧ r.analog? = some a ∧ (-11 : Word16).toInt < a.lo ∧ (-10 : Word16).toInt = a.lo ∧
      (100 : Word16).toInt = a.hi ∧ a.hi < (101 : Word16).toInt) ∧
    Safe (after (.force 1 [2, 0, 100]) running) ∧ Takes (after (.force 1 [2, 0, 100]) running) ∧
    (after (.force 1 [2, 0, 100]) running).forceOf 2 = some ⟨2, 100, .none⟩ :=
  ⟨⟨rfl, rfl⟩, rfl, safe_running, ⟨_, rfl, by decide⟩, ⟨_, _, rfl, rfl, by decide⟩, safe_of (by decide), ⟨rfl, rfl⟩,
    by decide⟩

theorem witness_ReleasesPoints : Takes running ∧ running.dev.mode = .run ∧ Safe running ∧ running.forceOf 0 = none ∧
    Takes (after (.force 1 [2, 0, 100]) running) ∧ Safe (after (.force 1 [2, 0, 100]) running) ∧
    (after (.force 1 [2, 0, 100]) running).dev.mode = .run ∧ (after (.force 1 [2, 0, 100]) running).forceOf 2 ≠ none :=
  ⟨⟨rfl, rfl⟩, rfl, safe_running, rfl, ⟨rfl, rfl⟩, safe_of (by decide), by decide⟩

/-! ### Witnesses: interlocks -/

theorem witness_DefinesInterlocks : Takes stopped ∧ stopped.dev.mode = .config ∧ TablesInv stopped ∧ QueueInv stopped ∧
    (List.replicate 8 ((0 : PointId), Test.isOn, (0 : Word16), (0xFFFF : Word16))).length = 8 ∧
    (byteAt [0, 0, 0, 0, 0, 0] 5).toNat = 0 ∧ 8 < (byteAt [0, 0, 0, 0, 0, 9] 5).toNat ∧
    (let ps : List Byte := [48, 0, 2, 0, 0, 1, 0, 4, 0, 0, 0, 0];
      (byteAt ps 5).toNat = 1 ∧ ps.length = 6 + 6 * 1 ∧ 48 ≤ (byteAt ps 0).toNat ∧ 2 ≤ (byteAt ps 2).toNat ∧
        4 ≤ (byteAt ps (7 + 6 * 0)).toNat) :=
  ⟨⟨rfl, rfl⟩, by decide, safe_stopped.1, safe_stopped.2.1, by decide⟩

/-- A PERMIT entry, a LATCHED one with its latches TRUE and with one FALSE, and a RELEASING one. -/
theorem witness_ReleasesEntries : Takes running ∧ TablesInv running ∧ running.dev.mode ≠ .config ∧
    (∃ e, running.entry? 0 = some e ∧ e.state ≠ .latched ∧ e.state ≠ .releasing) ∧
    (∃ e, running.entry? 1 = some e ∧ e.state = .latched ∧ ∀ t ∈ e.terms, t.latch = .latchTrue ∧ t.point ≠ e.target) ∧
    (TablesInv (after (.pinSample 0) running) ∧ Takes (after (.pinSample 0) running) ∧
      ∃ e, (after (.pinSample 0) running).entry? 1 = some e ∧ e.state = .latched ∧ ∃ t ∈ e.terms, t.latch ≠ .latchTrue) ∧
    ∃ e, running.entry? 2 = some e ∧ e.state = .releasing ∧ e.timer ≠ none ∧ ∀ t ∈ e.terms, t.point ≠ e.target :=
  ⟨⟨rfl, rfl⟩, safe_running.1, by decide, ⟨_, rfl, by decide⟩, ⟨_, rfl, by decide⟩,
    ⟨(safe_of (by decide) : Safe (after (.pinSample 0) running)).1, ⟨rfl, rfl⟩, _, rfl, by decide⟩, _, rfl, by decide⟩

/-- The evaluations of the same statement: a contact that a PERMIT and a LATCHED entry test, not yet forced and forced; what a
force to 0 does to each of the three entries (R51, R54). -/
theorem witness_ReleasesEntries_evaluated : Takes running ∧ running.dev.mode = .run ∧ Safe running ∧
    (∃ r, running.point? 0 = some r ∧ r.isDo = false ∧ r.analog? = none) ∧ running.derivedOf 0 = [] ∧
    (running.forceOf 0 = none ∧ running.forces.length < 16) ∧
    (let s := after (.force 1 [0, 0, 0]) running;
      Takes s ∧ s.dev.mode = .run ∧ Safe s ∧ s.forceOf 0 ≠ none ∧ s.derivedOf 0 = [] ∧
        [0, 1, 2].map (fun i => (s.entry? i).map fun e => (e.state, e.cause))
          = [some (.latched, .failing 0), some (.latched, .failing 0), some (.releasing, .none)]) :=
  ⟨⟨rfl, rfl⟩, rfl, safe_running, ⟨_, rfl, by decide⟩, by decide, by decide, ⟨rfl, rfl⟩, by decide, safe_of (by decide),
    by decide⟩

/-- A discrete and an analog point in use, and a point the part has lost. -/
theorem witness_TermsFollowTheirTables :
    (∃ r, running.point? 0 = some r ∧ r.usable = true ∧ running.presented 0 r = 1) ∧
    (∃ r, running.point? 2 = some r ∧ r.usable = true) ∧ ∃ r, stopped.point? 2 = some r ∧ r.usable = false :=
  ⟨⟨_, rfl, by decide⟩, ⟨_, rfl, by decide⟩, _, rfl, by decide⟩

theorem witness_ReadsRecords : Takes running ∧ running.entry? 47 = none ∧
    (∃ e, running.entry? 2 = some e ∧ e.state = .releasing) ∧ running.port.reportHold = none ∧
    (after (.reportHold 1 [0, 1]) running).port.reportHold = some 33 ∧ (33 * 1000 + 32767) / 32768 ≤ 65535 :=
  ⟨⟨rfl, rfl⟩, rfl, ⟨_, rfl, by decide⟩, rfl, by decide, by decide⟩

/-! ### Witnesses: drop lines, requests and windows -/

theorem witness_SetsLines : Takes running ∧ running.dev.mode ≠ .config ∧ Takes stopped ∧ stopped.dev.mode = .config ∧
    (List.replicate 18 (0 : Byte)).length ≠ 19 ∧ (∀ n ∈ [0, 8], n ≤ 8) ∧
    ∀ x ∈ [(0, (3 : Byte)), (1, 2), (2, 4), (3, 2), (11, 9), (12, 9), (13, 9), (15, 2)],
      ((List.replicate 19 0).set x.1 x.2).length = 19 ∧ (byteAt ((List.replicate 19 0).set x.1 x.2) x.1) = x.2 :=
  ⟨⟨rfl, rfl⟩, by decide, ⟨rfl, rfl⟩, by decide⟩

/-- A polling line, one with an exchange in flight, and one whose transfer the restart closes. -/
theorem witness_RestartsLines : Takes running ∧ running.dev.mode ≠ .config ∧ Safe running ∧
    (running.line .line0).state ≠ .off ∧ (running.line .line1).exchange ≠ none ∧ closedReplies running .line2 ≠ [] :=
  ⟨⟨rfl, rfl⟩, by decide, safe_running, by decide⟩

theorem witness_OpensWindows : Takes running ∧ TablesInv running ∧ running.dev.mode = .run ∧
    (running.line .line1).service ≠ .none ∧
    ((running.line .line0).service = .none ∧ (running.line .line0).state = .operate ∧ (running.line .line0).exchange = none) ∧
    (let s := withLine0 { awaitingLine with service := .none };
      (s.line .line0).service = .none ∧ (s.line .line0).state = .operate ∧ (s.line .line0).exchange ≠ none) ∧
    (running.line .line2).service = .granted ∧ (running.line .line2).holdTimer ≠ none :=
  ⟨⟨rfl, rfl⟩, safe_running.1, by decide⟩

/-- `running` with line 0 in its window, its SERVICE telegram waiting. -/
def windowWaiting : State := withLine0 { servedLine with sender := .waiting ⟨.service, 4, [1]⟩, receiver := .inside [5] }
/-- The same, a telegram being received with these symbols taken. -/
def windowTaking (nibbles : List Nibble) : State :=
  withLine0 { servedLine with
    sender := .idle, transfer := some ⟨7, 4, [1], .receiving⟩, receiver := .inside nibbles, replyTimer := some 1 }
/-- The same, the reply being received. -/
def windowReceiving : State := windowTaking [4]

theorem witness_ClosesWindows : Takes running ∧ Safe running ∧ (running.line .line0).service = .none ∧
    (running.line .line1).service = .pending ∧ (running.line .line2).service = .granted ∧
    (running.line .line2).transfer = some ⟨7, 4, [1], .sending⟩ ∧
    (running.line .line2).sender = .sending ⟨.service, 4, [1]⟩ .body ∧
    (Safe windowWaiting ∧ Takes windowWaiting ∧ (windowWaiting.line .line0).sender = .waiting ⟨.service, 4, [1]⟩) ∧
    (Safe windowReceiving ∧ Takes windowReceiving ∧
      (windowReceiving.line .line0).transfer = some ⟨7, 4, [1], .receiving⟩) ∧
    (Safe (windowTaking [5]) ∧ ∀ ns, ((windowTaking [5]).line .line0).receiver ≠ .inside (4 :: ns)) ∧
    (Safe (windowTaking []) ∧ ((windowTaking []).line .line0).receiver = .inside []) ∧
    (Safe (after (.serviceClose 9 [0]) (windowTaking [])) ∧
      ((after (.serviceClose 9 [0]) (windowTaking [])).line .line0).receiver = .abandoning) ∧
    Safe (withLine0 { servedLine with transfer := none, sender := .idle }) :=
  ⟨⟨rfl, rfl⟩, safe_running, by decide, by decide, by decide, by decide, by decide, ⟨safe_of (by decide), ⟨rfl, rfl⟩, rfl⟩,
    ⟨safe_of (by decide), ⟨rfl, rfl⟩, rfl⟩, ⟨safe_of (by decide), fun _ h => by cases h⟩,
    ⟨safe_of (by decide), rfl⟩, ⟨safe_of (by decide), by decide⟩, safe_of (by decide)⟩

/-- The reply whose OPEN alone had been taken at the closing: its symbols are strays, a bad end of it among them, and no count goes
up (R89, R101). -/
theorem test_closedReplyIsStray :
    let closed := after (.serviceClose 9 [0]) (windowTaking [])
    let take := fun (s : State) (x : Symbol) =>
      after (.symbolReceived .line0 (pairCode (s.line .line0).polarity (codeOf x))) s
    (take closed (.data 4)).line .line0 = { closed.line .line0 with
      receiver := .outside, silence := (closed.line .line0).silence + 1 } ∧
    (((take (take closed (.data 4)) .abort).line .line0).badTelegrams = 0 ∧
      ((take (take closed (.data 5)) .abort).line .line0).badTelegrams = 1) := by decide

/-- A beacon whose reception began before the closing is then handled as in OPERATE (R145). -/
theorem test_closeKeepsBeacon :
    ((after (.beacon .line0 0 0x4109 0x4109 0x4109 0x4109) (after (.serviceClose 9 [0]) (windowTaking [5]))).line
      .line0).lastBeacon = some ⟨0x41, 9⟩ ∧
    ((after (.serviceClose 9 [0]) windowReceiving).line .line0).receiver = .outside := by decide

/-- The telegrams that end nothing, on a line with the settings of `pollingLine`: a REPLY, a SERVICE REPLY of each extreme length,
and beacons of another sequence number and of four unequal words. -/
theorem discards_of {l : LineNo} {L : Line} (h : L.settings = pollingLine.settings) (hd : L.beaconDiscards = 0) :
    discardable l L (.reply l 4 [0, 0, 0]) 0 ∧ discardable l L (.serviceReply l 3 []) 0 ∧
      discardable l L (.serviceReply l 3 (List.replicate 24 0)) 0 ∧ discardable l L (.beacon l 1 0 0 0 0) 1 ∧
      discardable l L (.beacon l 0 0 0 0 1) 1 := by
  simp only [discardable, h, hd]
  decide +revert

/-- A free slot with the sender IDLE and sending; a transfer in each phase, with an expiry held and with none; a payload of 1
and of 24 bytes. -/
theorem witness_TransfersPayloads :
    (let s := withLine0 { servedLine with transfer := none, sender := .idle };
      Takes s ∧ LineInv s ∧ s.dev.mode = .run ∧ (s.line .line0).service = .granted ∧ (s.line .line0).transfer = none ∧
        (s.line .line0).sender = .idle) ∧
    (let s := withLine0 { servedLine with transfer := none };
      Takes s ∧ LineInv s ∧ (s.line .line0).transfer = none ∧ (s.line .line0).sender ≠ .idle) ∧
    1 ≤ ([0] : List Byte).length ∧ (List.replicate 24 (0 : Byte)).length ≤ 24 ∧
    (LineInv windowWaiting ∧ (windowWaiting.line .line0).state = .service ∧
      (windowWaiting.line .line0).transfer = some ⟨7, 4, [1], .sending⟩ ∧ (windowWaiting.line .line0).driving = false ∧
      discardable .line0 (windowWaiting.line .line0) (.beacon .line0 1 0 0 0 0) 1) ∧
    (LineInv windowReceiving ∧ (windowReceiving.line .line0).state = .service ∧
      (windowReceiving.line .line0).transfer = some ⟨7, 4, [1], .receiving⟩ ∧
      (windowReceiving.line .line0).replyTimer ≠ none ∧ (windowReceiving.line .line0).expiryHeld = false ∧
      (windowReceiving.line .line0).driving = false) ∧
    (let s := withLine0 { servedLine with
        sender := .idle, transfer := some ⟨7, 4, [1], .receiving⟩, receiver := .inside [4], expiryHeld := true };
      LineInv s ∧ (s.line .line0).expiryHeld = true ∧ (s.line .line0).driving = false ∧
        discardable .line0 (s.line .line0) (.serviceReply .line0 3 []) 0 ∧ (3 : Nibble) ≠ 4) ∧
    (let s := withLine0 { servedLine with
        sender := .idle, transfer := some ⟨7, 4, [1], .awaiting⟩, replyTimer := some 1 };
      LineInv s ∧ (s.line .line0).transfer = some ⟨7, 4, [1], .awaiting⟩ ∧ (s.line .line0).replyTimer ≠ none ∧
        (s.line .line0).driving = false) :=
  ⟨⟨⟨rfl, rfl⟩, lines_of (by decide), by decide⟩, ⟨⟨rfl, rfl⟩, lines_of (by decide), by decide⟩, by decide, by decide,
    ⟨lines_of (by decide), rfl, rfl, by decide, (discards_of rfl rfl).2.2.2.1⟩, ⟨lines_of (by decide), by decide⟩,
    ⟨lines_of (by decide), rfl, rfl, (discards_of rfl rfl).2.1, by decide⟩,
    lines_of (by decide), by decide⟩

/-! ### Witnesses: drop lines, polls, turns and telegrams -/

theorem witness_PollCyclesKeepTheirSchedule : running.dev.inReset = false ∧ (running.line .line0).state = .operate ∧
    (running.line .line0).pollTimer ≠ none ∧ (running.line .line1).exchange ≠ none ∧
    ∀ n ∈ [500, 20000], 500 ≤ n ∧ n ≤ 20000 := by decide

theorem witness_PollsStart : running.dev.inReset = false ∧
    ((running.line .line0).state = .operate ∧ (running.line .line0).pollTimer ≠ none ∧
      (running.line .line0).exchange = none) ∧
    ((running.line .line1).state = .operate ∧ (running.line .line1).pollTimer ≠ none ∧
      (running.line .line1).exchange ≠ none) ∧ (running.line .line2).state ≠ .operate := by decide

/-- Each sender and receiver that a clause names, on a locked line. -/
theorem witness_TurnsAndHuntsProceed :
    (received .line0 (.openReceived .line0) ∧ received .line0 (.reply .line0 5 []) ∧
      received .line0 (.serviceReply .line0 5 []) ∧ received .line0 (.badTelegram .line0 .badCheck) ∧
      received .line0 (.beacon .line0 0 0 0 0 0)) ∧
    (let L := { pollingLine with sender := .sending ⟨.poll, 5, []⟩ (.leadIn 1), exchange := some ⟨1, 5, .sending⟩ };
      SendPhase.leadIn 1 ≠ .tail ∧ L.exchange = some ⟨1, 5, .sending⟩ ∧ L.driving = true) ∧
    (SendPhase.body ≠ .tail ∧ pollingLine.exchange = none) ∧
    (servedLine.sender = .sending ⟨.service, 4, [1]⟩ .body ∧ servedLine.transfer = some ⟨7, 4, [1], .sending⟩) ∧
    (let L := { pollingLine with sender := .sending ⟨.poll, 5, []⟩ .tail };
      L.lock = .locked ∧ L.nextTelegram = none ∧ L.sender = .sending ⟨.poll, 5, []⟩ .tail ∧ L.driving = true) ∧
    (let L := { pollingLine with sender := .aborting };
      L.sender = .aborting ∧ L.nextTelegram = none ∧ L.driving = true) ∧
    Line.reset.state ≠ .acquire ∧
    (pollingLine.lock = .locked ∧ pollingLine.driving = false ∧ pollingLine.receiver = .outside ∧
      pollingLine.sender = .idle ∧ pollingLine.dwell = none) ∧
    (let L := { pollingLine with receiver := .inside [] }; L.driving = false ∧ L.receiver ≠ .outside) ∧
    Line.reset.lock = .acquire ∧ { Line.reset with dwell := some 0 }.dwell ≠ none :=
  ⟨⟨rfl, rfl, rfl, rfl, rfl⟩, by decide⟩

/-- In the tail of the part's own turn an OPEN and a REPLY are not seen; the REPLY after the turn's end is (R93). -/
theorem test_turnTakesNothing :
    let tail := withLine0 { awaitingLine with sender := .sending ⟨.poll, 5, []⟩ .tail, receiver := .outside }
    after (.openReceived .line0) tail = tail ∧ after (.reply .line0 5 [0, 0, 0]) tail = tail ∧
      ((after (.reply .line0 5 [0, 0, 0]) (after (.turnEnd .line0) tail)).line .line0).exchange = none := by decide

/-- While an ABORT goes out no bit is examined; after it, the hunt finds its lock (R93, R97). -/
theorem test_abortTakesNoBits :
    let fill := (List.replicate 8 [true, false, true, false, true]).flatten
    let cut := withLine0 { Line.reset with state := .acquire, sender := .aborting }
    after (.lock .line0 fill) cut = cut ∧
      ((after (.lock .line0 fill) (after (.turnEnd .line0) cut)).line .line0).lock = .locked := by decide

/-- An attempt in each phase, its first with a retry to come and its last. -/
theorem witness_AttemptsFail :
    (Safe running ∧ (running.line .line1).exchange = some ⟨1, 5, .awaiting⟩ ∧ (running.line .line1).replyTimer ≠ none ∧
      1 < (running.line .line1).settings.retryLimit + 1 ∧ (running.line .line1).driving = false) ∧
    (let s := withLine0 { awaitingLine with exchange := some ⟨2, 5, .receiving⟩ };
      Safe s ∧ (s.line .line0).exchange = some ⟨2, 5, .receiving⟩ ∧ (s.line .line0).replyTimer ≠ none ∧
        ¬ 2 < (s.line .line0).settings.retryLimit + 1 ∧ (s.line .line0).driving = false) ∧
    (let s := withLine0 { awaitingLine with exchange := some ⟨1, 5, .sending⟩, replyTimer := none };
      Safe s ∧ (s.line .line0).exchange = some ⟨1, 5, .sending⟩ ∧ (s.line .line0).driving = false) ∧
    let s := withLine0 { awaitingLine with
      exchange := some ⟨1, 5, .receiving⟩, replyTimer := none, expiryHeld := true, receiver := .inside [2] };
    Safe s ∧ (s.line .line0).exchange = some ⟨1, 5, .receiving⟩ ∧ (s.line .line0).expiryHeld = true ∧
      (s.line .line0).driving = false ∧ (4 : Nibble) ≠ 5 ∧
      discardable .line0 (s.line .line0) (.reply .line0 4 [0, 0, 0]) 0 ∧
      discardable .line0 (s.line .line0) (.beacon .line0 0 0 0 0 1) 1 :=
  ⟨⟨safe_running, by decide⟩, ⟨safe_of (by decide), by decide⟩, ⟨safe_of (by decide), by decide⟩, safe_of (by decide),
    rfl, rfl, rfl, by decide, (discards_of rfl rfl).1, (discards_of rfl rfl).2.2.2.2⟩

/-- The discards of a line with no exchange, with one that waits and with one still SENDING, and of a line in its window. -/
theorem witness_RepliesAreDelivered : Safe running ∧ (running.line .line0).lock = .locked ∧
    (running.line .line0).driving = false ∧ (running.line .line1).driving = false ∧
    (running.line .line0).exchange = none ∧ (running.line .line0).state ≠ .service ∧
    ([0, 0] : List Byte).length + 3 ≠ (running.line .line0).settings.replyLength ∧
    ([0, 0, 0] : List Byte).length + 3 = (running.line .line1).settings.replyLength ∧
    (running.line .line1).lock = .locked ∧ (running.line .line1).exchange = some ⟨1, 5, .awaiting⟩ ∧
    (running.line .line1).state ≠ .service ∧ (4 : Nibble) ≠ 5 ∧ (running.line .line1).expiryHeld = false ∧
    discardable .line0 (running.line .line0) (.serviceReply .line0 3 []) 0 ∧
    discardable .line1 (running.line .line1) (.reply .line1 4 [0, 0, 0]) 0 ∧
    (let s := withLine0 { servedLine with transfer := none, sender := .idle };
      Safe s ∧ (s.line .line0).lock = .locked ∧ (s.line .line0).state = .service ∧
        (s.line .line0).transfer.map Transfer.inFlight ≠ some true ∧ (s.line .line0).driving = false ∧
        discardable .line0 (s.line .line0) (.reply .line0 4 [0, 0, 0]) 0) ∧
    let s := withLine0 { awaitingLine with exchange := some ⟨1, 5, .sending⟩, replyTimer := none }
    Safe s ∧ (s.line .line0).exchange = some ⟨1, 5, .sending⟩ ∧ (s.line .line0).driving = false ∧
      discardable .line0 (s.line .line0) (.beacon .line0 1 0 0 0 0) 1 :=
  ⟨safe_running, by decide, by decide, by decide, by decide, by decide, by decide, by decide, by decide, by decide,
    by decide, by decide, by decide, (discards_of rfl rfl).2.1, (discards_of rfl rfl).1,
    ⟨safe_of (by decide), by decide, by decide, by decide, by decide, (discards_of rfl rfl).1⟩,
    safe_of (by decide), by decide, by decide, (discards_of rfl rfl).2.2.2.1⟩

/-- A line that polls and one in its window; an identity that fits, one that was attached, and one of another type. -/
theorem witness_BeaconsAreHandled : Safe running ∧ (running.line .line0).lock = .locked ∧
    (running.line .line0).driving = false ∧ (running.line .line0).state = .operate ∧
    (Safe windowWaiting ∧ (windowWaiting.line .line0).lock = .locked ∧ (windowWaiting.line .line0).driving = false ∧
      (windowWaiting.line .line0).state = .service ∧
      (windowWaiting.line .line0).transfer.map Transfer.progress = some .sending ∧
      (windowWaiting.line .line0).sender.kind = some .service) ∧
    (running.line .line0).settings.expectedType = 0x41 ∧ (running.line .line0).settings.exact = false ∧
    (running.line .line0).lastAttached = some ⟨0x41, 7⟩ ∧ (running.line .line0).expiryHeld = false ∧
    ¬ ((1 : Nibble) = 0 ∧ (0 : Word16) = 0 ∧ (0 : Word16) = 0 ∧ (0 : Word16) = 0) ∧
    ¬ ((0 : Nibble) = 0 ∧ (0 : Word16) = 0 ∧ (0 : Word16) = 0 ∧ (0 : Word16) = 1) ∧
    let s := withLine0 { pollingLine with
      sender := .waiting ⟨.poll, 5, []⟩, receiver := .inside [5], exchange := some ⟨1, 5, .sending⟩ }
    Safe s ∧ (s.line .line0).driving = false ∧ (s.line .line0).sender.turnBegun = .sending ⟨.poll, 5, []⟩ (.leadIn 3) :=
  ⟨safe_running, by decide, by decide, by decide, ⟨safe_of (by decide), by decide⟩, by decide, by decide, by decide,
    by decide, by decide, by decide, safe_of (by decide), by decide⟩

/-- Hunts before their fifth bit and after it, at the end of a run of FILL and of its complement, under each polarity. -/
def huntingLines : List Line :=
  let L := fun bits (pol : PolaritySetting) (n m : Nat) => { Line.reset with
    settings := { Line.reset.settings with polarity := pol }, state := .acquire, huntBits := bits, huntPos := 2
    straightRuns := (Vector.replicate 5 0).set 2 n, complementRuns := (Vector.replicate 5 0).set 2 m }
  [L [true, false, true] .auto 7 0, L [true, false, true, false] .auto 7 0,
    L [true, false, true, false, true] .auto 0 7, L [true, false, true, false, true] .normal 0 6]

/-- The bit that completes the eighth FILL locks, and the one that completes another code clears both runs (R97, R99). -/
theorem test_huntBitLocks :
    let s := withLine0 (huntingLines.getD 1 Line.reset)
    ((after (.lock .line0 [true]) s).line .line0).lock = .locked ∧
      ((after (.lock .line0 [true]) s).line .line0).alignment = 2 ∧
      ((after (.lock .line0 [false]) s).line .line0).straightRuns = Vector.replicate 5 0 := by decide

theorem witness_LocksAreFoundAndLost :
    (let L := { Line.reset with state := .acquire };
      L.lock = .acquire ∧ L.driving = false ∧ L.huntBits = [] ∧ L.huntPos = 0 ∧ L.straightRuns = Vector.replicate 5 0 ∧
        L.complementRuns = Vector.replicate 5 0 ∧ L.settings.polarity = .auto) ∧
    (∀ L ∈ huntingLines, LineInv (withLine0 L) ∧ L.state = .acquire ∧ L.lock = .acquire ∧ L.driving = false) ∧
    huntingLines.map (fun L => (L.huntBits.length, L.settings.polarity, L.straightRuns[L.huntPos], L.complementRuns[L.huntPos]))
      = [(3, .auto, 7, 0), (4, .auto, 7, 0), (5, .auto, 0, 7), (5, .normal, 0, 6)] ∧
    Safe running ∧ (running.line .line1).lock = .locked ∧ Line.reset.lock = .acquire := by
  refine ⟨by decide, fun L h => ?_, by decide, safe_running, by decide⟩
  have k : huntingLines.all fun L => (decLine (withLine0 L)).decide && decide (L.state = .acquire) &&
    decide (L.lock = .acquire) && !L.driving := by decide
  simpa [and_assoc] using List.all_eq_true.mp k L h

/-- A symbol with no lock, in each phase of a turn, outside a telegram, and inside one whose length leaves room for one more. -/
theorem witness_SymbolsAreTaken : Line.reset.lock = .acquire ∧ pollingLine.lock = .locked ∧
    { pollingLine with silence := 2046 }.silence + 1 < 2048 ∧ 1 < 2 ∧ pollingLine.driving = false ∧
    pollingLine.receiver = .outside ∧
    [symbolOf 0b10101, symbolOf 0b11000, symbolOf 0b00011] = [.fill, .open, .shut] ∧
    (symbolOf 0b01001 = .data 2 ∧ ([] ++ [(2 : Nibble)]).head? = some 2 ∧ 0 + 1 < 2 * pollingLine.settings.replyLength + 2) ∧
    (symbolOf 0b01011 = .data 4 ∧ ([] ++ [(4 : Nibble)]).head? = some 4 ∧ 54 + 1 < 2 * 27 + 2) ∧
    (symbolOf 0b01100 = .data 5 ∧ ([] ++ [(5 : Nibble)]).head? = some 5 ∧ 18 + 1 < 2 * 9 + 2) := by decide

/-- The ends of a telegram, each at its boundary: every symbol that ends one, the lengths about a REPLY's, a SERVICE REPLY's and a
BEACON's, the kinds no station sends, the last symbol of an overrun. -/
theorem witness_SymbolsAreTaken_inside : { pollingLine with receiver := .inside [2, 5] }.driving = false ∧
    [0b10101, 0b11000, 0b00011].map symbolOf = [.fill, .open, .shut] ∧
    (∃ c, symbolOf c = .abort) ∧ (∃ c, symbolOf c = .invalid) ∧
    ([] : List Nibble).length = 0 ∧ ([2] : List Nibble).length % 2 = 1 ∧
    (∀ n ∈ [5, 7], n ≠ pollingLine.settings.replyLength) ∧ pollingLine.settings.replyLength = 6 ∧
    (∀ n ∈ [8, 10], n ≠ 9) ∧ (2 < 3 ∧ 27 < 28) ∧
    (∀ ps ∈ [[], List.replicate 24 (0 : Byte)], ps.length ≤ 24 ∧ (nibblesOf (checkedTelegram 4 3 ps)).head? = some 4) ∧
    (nibblesOf [0x50, 0x41, 9, 0x41, 9, 0x41, 9, 0x41, 9]).head? = some 5 ∧
    (∀ n ∈ [(0 : Nibble), 1, 3, 6, 15], n ≠ 2 ∧ n ≠ 4 ∧ n ≠ 5) ∧
    2 * 6 + 2 ≤ 13 + 1 ∧ 2 * 27 + 2 ≤ 55 + 1 ∧ 2 * 9 + 2 ≤ 19 + 1 ∧
    (let L := { pollingLine with receiver := .abandoning };
      L.lock = .locked ∧ L.driving = false ∧ L.silence + 1 < 2048 ∧ L.receiver = .abandoning) := by decide

/-- The symbol at which the silence count reaches 2048, in each phase of a turn, outside a telegram and inside one. -/
theorem witness_SymbolsAreTaken_silence :
    (let L := { pollingLine with silence := 2047, sender := .sending ⟨.poll, 5, []⟩ (.leadIn 3) };
      L.lock = .locked ∧ 2048 ≤ L.silence + 1 ∧ 1 < 3 ∧ L.driving = true) ∧
    (let L := { pollingLine with silence := 2047, receiver := .inside [2] };
      L.driving = false ∧ L.receiver = .inside [2] ∧ symbolOf 0b01001 = .data 2 ∧
        1 + 1 < 2 * L.settings.replyLength + 2) ∧
    { pollingLine with silence := 2047 }.receiver = .outside := by decide

/-- A stray at the 2048th symbol time without FILL loses the lock, one before it does not (R100). -/
theorem test_silenceLosesLock : [2046, 2047].map (fun n =>
      ((after (.symbolReceived .line0 (pairCode (some .normal) (codeOf .abort)))
        (withLine0 { pollingLine with silence := n })).line .line0).lock)
    = [.locked, .acquire] := by decide

theorem witness_TelegramsAreReceivedWhole : running.choose = running ∧ LineInv running ∧
    (running.line .line1).lock = .locked ∧ (running.line .line1).driving = false ∧
    (running.line .line1).receiver = .outside ∧
    ([0, 0, 0] : List Byte).length + 3 = (running.line .line1).settings.replyLength ∧
    (running.line .line1).silence
      + (telegramSymbols .line1 (some .normal) (checkedTelegram 2 5 [0, 0, 0])).length < 2048 :=
  ⟨rfl, safe_running.2.2.2.2.2.1, by decide⟩

/-! ### Witnesses: samples, scaling and pins -/

/-- Samples with the fault flag clear and set, and the three mismatch counts. -/
theorem witness_SamplesQualify : (0x7FFF : Word16).getLsbD 15 = false ∧ (0x8000 : Word16).getLsbD 15 = true ∧
    (∃ r f, running.point? 0 = some r ∧ r.body = .di f ∧ 1 ≤ f.depth ∧ f.run ≤ f.depth ∧ f.depth ≤ 1) ∧
    (∃ r f, running.point? 2 = some r ∧ r.body = .ai f) ∧
    ∃ r f, running.point? 1 = some r ∧ r.body = .dout f ∧ f.mismatch = 0 ∧ { f with mismatch := 2 }.mismatch ≤ 2 ∧
      true = f.lastSent ∧ false ≠ f.lastSent :=
  ⟨by decide, by decide, ⟨_, _, rfl, rfl, by decide⟩, ⟨_, _, rfl, rfl⟩, _, _, rfl, rfl, by decide⟩

/-- The gain and the zero at the ends of their ranges; and the sum of `running`, whose sources are defined. -/
theorem witness_SamplesAreScaled :
    (let f : AiFields := ⟨4095, -32768, 32767, 1, 0, ⟨-32768, 32767, 0, 0, .none, 0⟩⟩;
      f.zero ≤ 4095 ∧ -32768 ≤ f.gain ∧ f.gain ≤ 32767 ∧ -32768 ≤ f.offset ∧ f.offset ≤ 32767 ∧ f.analog.lo < f.analog.hi ∧
        (0x7FFF : Word16).getLsbD 15 = false) ∧
    ∃ a, running.point? 2 = some a ∧ ∃ r f, running.point? 4 = some r ∧ r.body = .derived f ∧ f.sourceA = 2 ∧ f.sourceB = 2 :=
  ⟨by decide, _, rfl, _, _, rfl, rfl, rfl, rfl⟩

theorem witness_PinsAreSampled : running.dev.inReset = false ∧ TablesInv running ∧ running.pins.timer ≠ none ∧
    TablesInv stopped ∧ stopped.pins.timer = none :=
  ⟨rfl, safe_running.1, by decide, safe_stopped.1, by decide⟩

/-! ### Witnesses: the port and the queue -/

/-- A full frame; a frame and a REPLY at their last check byte and at SHUT, with a check word one off. -/
theorem witness_CheckWordsHold : (∀ ps : List Byte, ps.length = 198 → ps.length ≤ 198) ∧ (0 : Byte) ≠ 1 ∧
    checkAccepts [0x02, 0x01, 0x21] ((0xDC : Byte) ++ (0xFF : Byte)) = false ∧
    parityBitOf .none 0xFF = parityBitOf (parityOf running.dev.parityStrap) 0xFF ∧
    (running.setPort { running.port with framer := .inside [0x02, 0x01, 0x21, 0xDC] 0 }).port.framer
      = .inside ([0x02, 0x01, 0x21] ++ [0xDC]) 0 ∧
    (let L := { pollingLine with receiver := .inside [4, 5, 0, 0, 0, 0] };
      L.lock = .locked ∧ L.driving = false ∧ L.silence + 1 < 2048 ∧ (4 : Nibble) = 4 ∧ ([] : List Byte).length ≤ 24 ∧
        (List.replicate 24 (0 : Byte)).length ≤ 24 ∧
        L.receiver = .inside ((([0x45] : List Byte) ++ [0, 0]).flatMap
          fun (b : Byte) => [b.extractLsb' 4 4, b.extractLsb' 0 4]) ∧
        checkAccepts [0x45] ((0 : Byte) ++ (0 : Byte)) = false) ∧
    let L := { pollingLine with receiver := .inside [2, 5, 0, 0, 0, 0, 0, 0, 0, 0, 0, 0] };
    L.lock = .locked ∧ L.driving = false ∧ L.silence + 1 < 2048 ∧
      ([0, 0, 0] : List Byte).length + 3 = L.settings.replyLength ∧
      L.receiver = .inside ((([0x25, 0, 0, 0] : List Byte) ++ [0, 0]).flatMap
        fun (b : Byte) => [b.extractLsb' 4 4, b.extractLsb' 0 4]) ∧
      checkAccepts [0x25, 0, 0, 0] ((0 : Byte) ++ (0 : Byte)) = false ∧ symbolOf (pairCode L.polarity 0b00011) = .shut :=
  ⟨fun _ h => h.le, by decide⟩

/-- HUNT and a frame in progress: a gap at the limit and past it, an L at each bound, and a frame at its last byte. -/
theorem witness_FramesAreDiscarded : running.dev.inReset = false ∧ running.port.framer = .hunt ∧ (0xC4 : Byte) ≠ 0xC5 ∧
    parityOf running.dev.parityStrap = .none ∧ (30 < 0 + 31 ∧ 0 + 30 ≤ 30) ∧
    ((1 : Byte).toNat < 2 ∧ 200 < (201 : Byte).toNat) ∧ checkAccepts [0x02, 0x01, 0x21] ((0xDC : Byte) ++ (0xFF : Byte)) = false ∧
    ([0x02, 0x01, 0x21, 0xDC] : List Byte) = byteOf (([] : List Byte).length + 2) :: 0x01 :: 0x21 :: [] ++ [0xDC] := by decide

theorem witness_FramesAreReceivedWhole : running.dev.inReset = false ∧ running.port.framer = .hunt ∧
    running.choose = running ∧ ∀ ps : List Byte, ps.length = 198 → ps.length ≤ 198 :=
  ⟨rfl, rfl, rfl, fun _ h => h.le⟩

theorem witness_EchoesParameters : Takes running ∧ (∀ ps : List Byte, ps.length = 197 → ps.length ≤ 197) ∧
    (∀ ps : List Byte, ps.length = 198 → 197 < ps.length) ∧ running.dev.mode = .run ∧ running.dev.silenceLimit ≠ 0 :=
  ⟨⟨rfl, rfl⟩, fun _ h => h.le, fun _ h => h ▸ by decide, by decide⟩

/-- RESET cuts the SERVICE telegram of line 2's transfer (R91, R106). -/
theorem test_resetCutsTransfer : (running.line .line2).sender = .sending ⟨.service, 4, [1]⟩ .body ∧
    ((after (.reset 1 []) running).line .line2).sender = .aborting := by decide

theorem witness_ResetRequestsCloseThePort : Takes running ∧ PortInv running ∧ closedReplies running .line0 = [] ∧
    closedReplies running .line2 ≠ [] :=
  ⟨⟨rfl, rfl⟩, safe_running.2.2.1, by decide⟩

/-- All classes on, so that each may be turned off. -/
theorem witness_SetsReporting : Takes running ∧ TablesInv running ∧ QueueInv running ∧ running.classes = ⟨true, true, true⟩ :=
  ⟨⟨rfl, rfl⟩, safe_running.1, safe_running.2.1, rfl⟩

/-- A full queue with a mark beside it. -/
def crowded : State :=
  { running with
    dev := { running.dev with pending := ⟨true, 3⟩ }
    queue := ((List.finRange 256).take 64).map fun p => ⟨.point p, .point .good false .none 0, 1, 0⟩ }

theorem witness_ReadsChanges : Takes running ∧ TablesInv running ∧ QueueInv running ∧ running.queue = [] ∧ Takes crowded ∧
    TablesInv crowded ∧ crowded.markedKeys = [.device] ∧ crowded.queue.length = 64 :=
  ⟨⟨rfl, rfl⟩, safe_running.1, safe_running.2.1, rfl, ⟨rfl, rfl⟩, safe_running.1, by decide, by decide⟩

/-- A forced point that one STOP releases and then makes LOST: its record shows the final state, folded once (R77, R148). -/
theorem test_recordFollowsItsPoint :
    ((after (.stop 1 []) (after (.force 1 [2, 0, 100]) running)).queue.filter fun r => r.key = .point 2).map
      (fun r => (r.payload, r.fold)) = [(.point .lost false .none 50, 2)] := by decide

theorem witness_NoticesAreTaken_event : TablesInv (Work.releaseForce ⟨after (.force 1 [2, 0, 100]) running, []⟩ 2).st ∧
    (Work.releaseForce ⟨after (.force 1 [2, 0, 100]) running, []⟩ 2).raised = [.point 2] :=
  ⟨of_decide_eq_true (inst := decTables _) (by decide), by decide⟩

/-- A key that may not report, one with a record, one without in a queue with room and in a full one. -/
theorem witness_NoticesAreTaken : TablesInv running ∧ TablesInv crowded ∧ running.mayReport (.point 255) = false ∧
    (crowded.mayReport (.point 0) = true ∧ (∃ pl, crowded.payload (.point 0) = some pl) ∧
      crowded.hasRecord (.point 0) = true) ∧
    (running.mayReport (.point 2) = true ∧ running.hasRecord (.point 2) = false ∧ running.queue.length < 64 ∧
      ∃ r a, running.point? 2 = some r ∧ r.analog? = some a) ∧
    (crowded.mayReport .device = true ∧ crowded.hasRecord .device = false ∧ 64 ≤ crowded.queue.length) :=
  ⟨safe_running.1, safe_running.1, rfl, ⟨rfl, ⟨_, rfl⟩, by decide⟩, ⟨rfl, rfl, by decide, _, _, rfl, rfl⟩, by decide⟩

/-- The notice of a new value of point 2, whose deadband is 2 and whose last recorded value is 50, alone and after another notice
of the event; of an entry's cause; and of a line's restart count (R34, R56, R146). -/
theorem witness_NoticesAreTaken_raised :
    let w : Work := ⟨running, []⟩
    let load (v : Int) : Point := goodPoint .sprA 0 (.ai ⟨10, 256, 0, 2, 2, ⟨-10, 100, 2, v, .none, 50⟩⟩)
    [51, 52, 48, 49].map (fun v => (w.storePoint 2 (load 50) (load v)).raised) = [[], [.point 2], [.point 2], []] ∧
      (({ w with raised := [.point 2] } : Work).storePoint 2 (load 50) (load 52)).raised = [.point 2] ∧
      (∀ e, running.entry? 0 = some e → (w.storeEntry 0 e e).raised = [] ∧
        (w.storeEntry 0 e { e with cause := .failing 0 }).raised = [.interlock 0]) ∧
      (w.putLine .line0 { pollingLine with failures := 1 }).raised = [] ∧
      (w.putLine .line0 { pollingLine with restartCount := 1 }).raised = [.line .line0] := by
  refine ⟨by decide, by decide, ?_, by decide, by decide⟩
  rintro e ⟨⟩
  decide

theorem witness_HoldsReports : running.dev.inReset = false ∧ Takes running := ⟨rfl, rfl, rfl⟩

/-- An IDLE transmitter with a reply, with a record and with neither; one that sends each of the three kinds of frame; and a
full reply queue. -/
theorem witness_TransmitterChooses :
    (let s := running.setPort { running.port with replies := [⟨0x81, 1, .ok, []⟩] };
      s.port.transmitter = .idle ∧ s.port.replies = [⟨0x81, 1, .ok, []⟩] ∧ ([] : List Reply).length < 4) ∧
    (let s := crowded.setPort { crowded.port with reportEnable := true };
      s.port.transmitter = .idle ∧ s.port.replies = [] ∧ s.port.reportEnable = true ∧ s.port.reportHold = none ∧
        s.queue.length ≠ 0) ∧
    (running.port.transmitter = .idle ∧ running.port.replies = [] ∧ running.port.reportEnable = false) ∧
    (after (.echo 1 []) running).port.transmitter = .reply ⟨0x81, 1, .ok, []⟩ ∧
    (after (.reset 1 []) State.reset).port.transmitter = .reply ⟨0x83, 1, .ok, []⟩ ∧
    (let s := running.setPort { running.port with transmitter := .report [] };
      s.port.transmitter = .report [] ∧ s.port.transmitter ≠ .idle) ∧
    4 ≤ (List.replicate 4 (⟨0x81, 1, .ok, []⟩ : Reply)).length := by decide

/-! ### Witnesses: modes -/

/-- A configuration that START takes, and one that it does not: an output with no byte in its line's image. -/
theorem witness_StartsRun : Takes stopped ∧ stopped.dev.mode = .config ∧ Safe stopped ∧ StartFits stopped ∧
    Takes (stopped.setLine .line0 Line.reset) ∧ Safe (stopped.setLine .line0 Line.reset) ∧
    ¬ StartFits (stopped.setLine .line0 Line.reset) :=
  ⟨⟨rfl, rfl⟩, by decide, safe_stopped, startFits_of (by decide) (by decide), ⟨rfl, rfl⟩, safe_of (by decide),
    not_startFits_of 1 (by decide)⟩

/-- A term on a contact that a later entry wrongly targets is not the fault: the later entry's TARGET is (R70, R173). -/
theorem test_laterTargetIsTheFault :
    let term : Term := ⟨0, .isOn, 0, 0, .latchUnknown⟩
    let e (p : PointId) : Entry := ⟨p, true, 10, [term], .blocked, .unusable 0, none, Pending.clear⟩
    (after (.start 1 []) { stopped with entries := [(0, e 1), (1, e 0)] }).port.replies.getLast?
      = some ⟨0x84, 1, .conflict, [2, 1, 5, 0]⟩ := by decide

theorem witness_StopsRun : Takes stopped ∧ stopped.dev.mode = .config ∧ Takes running ∧ running.dev.mode ≠ .config ∧
    Safe running ∧ ∃ r f, running.point? 4 = some r ∧ r.body = .derived f :=
  ⟨⟨rfl, rfl⟩, by decide, ⟨rfl, rfl⟩, by decide, safe_running, _, _, rfl, rfl⟩

theorem witness_EntersSafe : running.dev.inReset = false ∧ Safe running ∧ running.dev.mode = .run ∧ Takes running ∧
    running.dev.silenceTimer ≠ none ∧ Takes held ∧ Safe held ∧ held.dev.mode = .safe ∧ held.dev.mode ≠ .run :=
  ⟨rfl, safe_running, rfl, ⟨rfl, rfl⟩, by decide, ⟨rfl, rfl⟩, safe_held, by decide⟩

theorem witness_ResumesRun : Takes held ∧ held.dev.mode = .safe ∧ Safe held := ⟨⟨rfl, rfl⟩, by decide, safe_held⟩

theorem witness_SetsMonitor : Takes running ∧ running.dev.mode ≠ .config ∧ Takes stopped ∧ stopped.dev.mode = .config ∧
    QueueInv running ∧ QueueInv stopped ∧ ([0, 0] : List Byte).length ≠ 3 ∧ SafeAction.hold ≠ stopped.dev.safeAction ∧ stopped.classes.device = true ∧
    stopped.queue.length < 64 ∧ 2 ≤ (2 : Byte).toNat :=
  ⟨⟨rfl, rfl⟩, by decide, ⟨rfl, rfl⟩, by decide, safe_running.2.1, safe_stopped.2.1, by decide⟩

end Sys2Proof.Tests
end

section
/-! What the Local Pin Block drives, and SET PINS (R20, R21). -/

namespace Sys2Proof.Machine

/-! ### SET PINS -/

/-- A 16-bit field reads back as the word it was (R183). -/
theorem wordOf_extractLsb' (w : Word16) : wordOf (w.extractLsb' 8 8) (w.extractLsb' 0 8) = w :=
  (BitVec.extractLsb'_append_extractLsb'_eq_extractLsb' rfl).trans BitVec.extractLsb'_eq_self

/-- The dispatch gives SET PINS to the Local Pin Block (R20). -/
theorem exec_setPins (tag : Byte) (ps : List Byte) (s : State) :
    exec (.setPins tag ps) s = runRequest 0x16 tag (setLocalPins ps) s :=
  rfl

theorem setLocalPins_notConfig (ps : List Byte) {s : State} (h : s.dev.mode ≠ .config) :
    setLocalPins ps s = refuse s .mode := by
  simp [setLocalPins, h]

theorem setLocalPins_badLength {ps : List Byte} {s : State} (h : s.dev.mode = .config) (hl : ps.length ≠ 4) :
    setLocalPins ps s = refuse s .badLength := by
  simp [setLocalPins, h, hl]

/-- In CONFIG both words are stored and returned as carried (R20). -/
theorem setLocalPins_stores (direction level : Word16) {s : State} (h : s.dev.mode = .config) :
    setLocalPins (wordBytes direction ++ wordBytes level) s
      = (s.setPins { s.pins with direction := direction, resetLevel := level },
          .reply .ok (wordBytes direction ++ wordBytes level)) := by
  simp [setLocalPins, h, wordBytes, byteAt, wordOf_extractLsb']

/-! ### What a pin drives -/

/-- In a sorted table every row before another has a lower key. -/
theorem tableSorted_lt_of_append {n : Nat} {α : Type} {before after : List (Fin n × α)} {e x : Fin n × α}
    (hs : tableSorted (before ++ e :: after) = true) (hx : x ∈ before) : x.1 < e.1 := by
  simp only [tableSorted, List.map_append, List.map_cons, List.pairwise_append, decide_eq_true_eq] at hs
  exact hs.2.2 x.1 (List.mem_map_of_mem hx) e.1 List.mem_cons_self

/-- The lowest DO point on a channel is its pin's source (R21). -/
theorem pinSource_of_lowest {s : State} {k : Nat} {p : PointId} {r : Point} {f : DoFields}
    (hs : tableSorted s.points = true) (hp : s.point? p = some r) (hplace : r.place = some ⟨.trolley, k⟩)
    (hbody : r.body = .dout f)
    (hlow : ∀ q r' f', q < p → s.point? q = some r' → r'.body = .dout f' → r'.place ≠ some ⟨.trolley, k⟩) :
    s.pinSource k = some f.effective := by
  obtain ⟨before, after, hsplit⟩ := List.append_of_mem (tableGet_mem hp)
  rw [State.pinSource, List.findSome?_eq_some_iff]
  refine ⟨before, (p, r), after, hsplit, by simp [hbody, hplace], fun x hx => ?_⟩
  have hlt : x.1 < p := tableSorted_lt_of_append (hsplit ▸ hs) hx
  have hget : s.point? x.1 = some x.2 := tableGet_of_mem hs (hsplit ▸ List.mem_append_left _ hx)
  split
  next f' hb => exact if_neg (hlow x.1 x.2 f' hlt hget hb)
  next => rfl

/-- A channel without a DO point gives its pin no source. -/
theorem pinSource_of_unused {s : State} {k : Nat} (hs : tableSorted s.points = true)
    (hnone : ∀ p r f, s.point? p = some r → r.body = .dout f → r.place ≠ some ⟨.trolley, k⟩) :
    s.pinSource k = none := by
  rw [State.pinSource, List.findSome?_eq_none_iff]
  intro x hx
  split
  next f hb => exact if_neg (hnone x.1 x.2 f (tableGet_of_mem hs hx) hb)
  next => rfl

theorem pinDrive_in {s : State} {k : Nat} (h : s.pins.direction.getLsbD k = false) : s.pinDrive k = none := by
  simp [State.pinDrive, h]

theorem pinDrive_out {s : State} {k : Nat} (h : s.pins.direction.getLsbD k = true) :
    s.pinDrive k = some ((s.pinSource k).getD (s.pins.resetLevel.getLsbD k)) := by
  simp [State.pinDrive, h]

/-- In CONFIG a gated DO point has its fail value as effective value (R59). -/
theorem GateInv.effective_config {s : State} {p : PointId} {r : Point} {f : DoFields} (hg : GateInv s)
    (hp : s.point? p = some r) (hbody : r.body = .dout f) (hm : s.dev.mode = .config) : f.effective = f.fail := by
  have hrow := hg (p, r) (tableGet_mem hp)
  simpa [hbody, outputRule, hm] using hrow

/-- Settles O22: the request's three outcomes through `runRequest`, the drive through the pin's source. -/
theorem setsPins : Obligations.SetsPins := by
  refine ⟨fun tag direction level ps s ht => ⟨fun hm => ?_, fun hm hl => ?_, fun hm => ?_⟩,
    fun s k hs _ => ⟨pinDrive_in, fun hout => ⟨fun p r f hp hplace hbody hlow => ?_, fun hnone => ?_⟩⟩⟩
  · exact (exec_setPins ..).trans (runRequest_answered _ _ ht (setLocalPins_stores _ _ hm) rfl)
  · exact (exec_setPins ..).trans (runRequest_refused _ _ ht (setLocalPins_badLength hm hl))
  · exact (exec_setPins ..).trans (runRequest_refused _ _ ht (setLocalPins_notConfig _ hm))
  · have hdrive : s.pinDrive k = some f.effective := by
      rw [pinDrive_out hout, pinSource_of_lowest hs.1 hp hplace hbody hlow, Option.getD_some]
    exact ⟨hdrive, fun hg hm => hg.effective_config hp hbody hm ▸ hdrive⟩
  · rw [pinDrive_out hout, pinSource_of_unused hs.1 hnone, Option.getD_none]

end Sys2Proof.Machine
end

section
/-! How an AI sample is scaled and a derived point is formed (R29 to R32, R38, R39). -/

namespace Sys2Proof.Machine

/-! ### The rounded quotient (R30) -/

theorem roundQuotient_of_nonneg {p : Int} (h : 0 ≤ p) : roundQuotient p = ((p.natAbs + 128) / 256 : Nat) :=
  if_neg (not_lt.mpr h)

theorem roundQuotient_of_neg {p : Int} (h : p < 0) : roundQuotient p = -((p.natAbs + 128) / 256 : Nat) :=
  if_pos h

theorem natAbs_roundQuotient (p : Int) : (roundQuotient p).natAbs = (p.natAbs + 128) / 256 := by
  rcases lt_or_ge p 0 with h | h
  · rw [roundQuotient_of_neg h, Int.natAbs_neg, Int.natAbs_natCast]
  · rw [roundQuotient_of_nonneg h, Int.natAbs_natCast]

theorem roundQuotient_nonneg {p : Int} (h : 0 ≤ p) : 0 ≤ roundQuotient p := by
  rw [roundQuotient_of_nonneg h]
  exact Int.natCast_nonneg _

theorem roundQuotient_nonpos {p : Int} (h : p ≤ 0) : roundQuotient p ≤ 0 := by
  rcases h.lt_or_eq with h | rfl
  · rw [roundQuotient_of_neg h]
    omega
  · rfl

/-- The quotient is a nearest one: 256 · q misses p by half a divisor at most (R30). -/
theorem roundQuotient_nearest (p : Int) : 2 * (256 * roundQuotient p - p).natAbs ≤ 256 := by
  rcases lt_or_ge p 0 with h | h
  · rw [roundQuotient_of_neg h]
    omega
  · rw [roundQuotient_of_nonneg h]
    omega

/-! ### The steps of an AI sample (R28 to R31) -/

/-- The product of R29 stays within its bound. -/
theorem natAbs_product_le {d g : Int} (hd : d.natAbs ≤ 4095) (hg : g.natAbs ≤ 32768) :
    (d * g).natAbs ≤ 134184960 :=
  (Int.natAbs_mul d g).trans_le (Nat.mul_le_mul hd hg)

/-- A sample with the fault flag clear sends its scaled raw code through the clamp (R28). -/
theorem sampleAi_body_of_valid {w : Word16} (r : Point) (f : AiFields) (h : w.getLsbD 15 = false) :
    (sampleAi r f w).body = .ai { f with
      validRun := min (f.validRun + 1) f.settle, analog := f.analog.take (scaleRaw f (w.toNat % 4096)) } := by
  rw [sampleAi, if_neg (ne_true_of_eq_false h)]

/-! ### The clamp (R32) -/

theorem Analog.take_under {a : Analog} {v : Int} (h : v < a.lo) :
    (a.take v).value = a.lo ∧ (a.take v).range = .under := by
  simp [Analog.take, clampRange, h]

theorem Analog.take_over {a : Analog} {v : Int} (hlo : a.lo ≤ v) (hhi : a.hi < v) :
    (a.take v).value = a.hi ∧ (a.take v).range = .over := by
  simp [Analog.take, clampRange, not_lt.mpr hlo, hhi]

theorem Analog.take_within {a : Analog} {v : Int} (hlo : a.lo ≤ v) (hhi : v ≤ a.hi) :
    (a.take v).value = v ∧ (a.take v).range = .none := by
  simp [Analog.take, clampRange, not_lt.mpr hlo, not_lt.mpr hhi]

/-- Whatever the candidate, the engineering value lies within the limits (R32). -/
theorem Analog.take_value_mem {a : Analog} (h : a.lo < a.hi) (v : Int) :
    a.lo ≤ (a.take v).value ∧ (a.take v).value ≤ a.hi := by
  rcases lt_or_ge v a.lo with hlo | hlo
  · simp [(Analog.take_under hlo).1, h.le]
  · rcases lt_or_ge a.hi v with hhi | hhi
    · simp [(Analog.take_over hlo hhi).1, h.le]
    · simp [(Analog.take_within hlo hhi).1, hlo, hhi]

/-! ### Derived points (R38, R39) -/

@[simp] theorem Quality.rank_worse (a b : Quality) : (a.worse b).rank = max a.rank b.rank := by
  unfold Quality.worse
  split <;> omega

/-- A forced source counts as GOOD, the best rank (R39). -/
@[simp] theorem Point.rank_sourceQuality (r : Point) :
    r.sourceQuality.rank = if r.forced then 0 else r.quality.rank :=
  apply_ite Quality.rank ..

/-- With both sources defined, a derived point takes its candidate through the clamp and the worse quality (R38, R39). -/
theorem derive_of_sources {s : State} {a b : Point} {f : DerivedFields} (r : Point)
    (ha : s.point? f.sourceA = some a) (hb : s.point? f.sourceB = some b) :
    s.derive r f = { r with
      quality := a.sourceQuality.worse b.sourceQuality
      body := .derived { f with
        analog := f.analog.take (f.kind.apply (s.presented f.sourceA a) (s.presented f.sourceB b)) } } := by
  simp [State.derive, ha, hb]

/-- Settles O44: each bound from the one before it (R29 to R31), and both kinds of candidate through the one clamp. -/
theorem samplesAreScaled : Obligations.SamplesAreScaled := by
  refine ⟨fun r f w hz hg1 hg2 hb1 hb2 hlim hw => ?_, fun s r a b f ha hb => ?_⟩
  · obtain ⟨d, hd⟩ : ∃ d : Int, d = (w.toNat % 4096 : Nat) - (f.zero : Int) := ⟨_, rfl⟩
    have hd1 : -4095 ≤ d := by omega
    have hd2 : d ≤ 4095 := by omega
    have hp : (d * f.gain).natAbs ≤ 134184960 := natAbs_product_le (by omega) (by omega)
    have hq : (roundQuotient (d * f.gain)).natAbs ≤ 524160 := by rw [natAbs_roundQuotient]; omega
    have hv : scaleRaw f (w.toNat % 4096) = roundQuotient (d * f.gain) + f.offset := by rw [hd, scaleRaw]
    exact ⟨d, d * f.gain, roundQuotient (d * f.gain), scaleRaw f (w.toNat % 4096), _, sampleAi_body_of_valid r f hw,
      hd, hd1, hd2, rfl, hp, natAbs_roundQuotient _, roundQuotient_nonneg, roundQuotient_nonpos, hq,
      roundQuotient_nearest _, hv, by omega, by omega, Analog.take_under,
      fun hhi => Analog.take_over (hlim.trans hhi).le hhi, Analog.take_within, Analog.take_value_mem hlim _⟩
  · rw [derive_of_sources r ha hb]
    refine ⟨_, rfl, ?_, ?_⟩
    · rw [Quality.rank_worse, Point.rank_sourceQuality, Point.rank_sourceQuality]
    · exact ⟨Analog.take_under, Analog.take_over, Analog.take_within⟩

end Sys2Proof.Machine
end

section
/-! How an evaluation sets the latch of a term: the tables of its test (R46 to R49). -/

namespace Sys2Proof.Machine

/-! ### The tables of the four tests -/

/-- An IS_ON term asks for a 1, whatever its latch was (R47). -/
theorem testLatch_isOn (T : Int) (H : Nat) (before : Latch) (v : Int) :
    testLatch .isOn T H before v = if v = 1 then .latchTrue else .latchFalse := by
  simp [testLatch]

/-- An IS_OFF term asks for a 0, whatever its latch was (R47). -/
theorem testLatch_isOff (T : Int) (H : Nat) (before : Latch) (v : Int) :
    testLatch .isOff T H before v = if v = 0 then .latchTrue else .latchFalse := by
  simp [testLatch]

/-- The ABOVE table: the hysteresis lowers the bound of a term that is TRUE, and of no other (R48). -/
theorem testLatch_above (T : Int) (H : Nat) (before : Latch) (v : Int) :
    testLatch .above T H before v =
      if (if before = .latchTrue then T - H else T) ≤ v then .latchTrue else .latchFalse := by
  cases before <;> simp [testLatch]

/-- The BELOW table: the hysteresis raises the bound of a term that is TRUE, and of no other (R49). -/
theorem testLatch_below (T : Int) (H : Nat) (before : Latch) (v : Int) :
    testLatch .below T H before v =
      if v ≤ (if before = .latchTrue then T + H else T) then .latchTrue else .latchFalse := by
  cases before <;> simp [testLatch]

/-! ### One term evaluated on its own point -/

/-- A term that tests the changed point takes the latch of its evaluation (R50). -/
theorem evalTerms_self (s : State) (t : Term) :
    evalTerms s [t.point] [t] = [{ t with latch := termLatch s t }] := by
  simp [evalTerms]

theorem termLatch_of_unusable {s : State} {t : Term} {r : Point} (hp : s.point? t.point = some r)
    (hu : r.usable = false) : termLatch s t = .latchUnknown := by
  simp [termLatch, hp, hu]

theorem termLatch_of_usable {s : State} {t : Term} {r : Point} (hp : s.point? t.point = some r)
    (hu : r.usable = true) :
    termLatch s t = testLatch t.test t.threshold t.hysteresis t.latch (s.presented t.point r) := by
  simp [termLatch, hp, hu]

/-- On a usable point, a term whose test asks `b` becomes TRUE where `b` holds and FALSE where it does not (R46). -/
theorem evalTerms_self_of_usable {s : State} {t : Term} {r : Point} {b : Prop} [Decidable b]
    (hp : s.point? t.point = some r) (hu : r.usable = true)
    (htest : testLatch t.test t.threshold t.hysteresis t.latch (s.presented t.point r)
      = if b then .latchTrue else .latchFalse) :
    (b → evalTerms s [t.point] [t] = [{ t with latch := .latchTrue }]) ∧
      (¬ b → evalTerms s [t.point] [t] = [{ t with latch := .latchFalse }]) := by
  rw [evalTerms_self, termLatch_of_usable hp hu, htest]
  exact ⟨fun hb => by rw [if_pos hb], fun hb => by rw [if_neg hb]⟩

/-- Settles O27: an unusable point by R46; on a usable one the term's test, and for an analog test the latch it held, pick
the table's row, and `evalTerms_self_of_usable` turns that row into the term after it. -/
theorem termsFollowTheirTables : Obligations.TermsFollowTheirTables := by
  intro s t r hp
  refine ⟨fun hu => ?_, fun hu _ => ⟨fun ht => ?_, fun ht => ?_⟩,
    fun hu ht => ⟨fun hl => ?_, fun hl => ?_, fun hh => ?_⟩, fun hu ht => ⟨fun hl => ?_, fun hl => ?_⟩⟩
  case refine_1 => rw [evalTerms_self, termLatch_of_unusable hp hu]
  all_goals refine evalTerms_self_of_usable hp hu ?_
  -- IS_ON and IS_OFF
  · rw [ht, testLatch_isOn]
  · rw [ht, testLatch_isOff]
  -- ABOVE, from a latch not TRUE, from TRUE, and with no hysteresis
  · rw [ht, testLatch_above, if_neg hl]
  · rw [ht, testLatch_above, if_pos hl]
  · rw [ht, testLatch_above, hh, Nat.cast_zero, sub_zero, ite_self]
  -- BELOW, from a latch not TRUE and from TRUE
  · rw [ht, testLatch_below, if_neg hl]
  · rw [ht, testLatch_below, if_pos hl]

end Sys2Proof.Machine
end

section
/-! What an event leaves of an entity whose notice it has raised: the record, the mark and the timestamp that the notice wrote
stand until the end of the event, where the record follows the entity to its final state (R23, R148 to R151). -/

namespace Sys2Proof.Machine

variable {s t u : State} {k k' : Key}

/-! ### What a notice writes -/

/-- The last change timestamp of a point; an entity of another kind has none (R23). -/
def State.stampOf (s : State) : Key → Option Tick
  | .point p => (s.point? p).map Point.lastChange
  | _ => none

@[simp] theorem Point.lastChange_setRecorded (r : Point) (v : Int) : (r.setRecorded v).lastChange = r.lastChange := by
  unfold Point.setRecorded
  split <;> rfl

@[simp] theorem Point.pending_setRecorded (r : Point) (v : Int) : (r.setRecorded v).pending = r.pending := by
  unfold Point.setRecorded
  split <;> rfl

@[simp] theorem Point.report_setRecorded (r : Point) (v : Int) : (r.setRecorded v).report = r.report := by
  unfold Point.setRecorded
  split <;> rfl

theorem State.pendingOf_point (s : State) (p : PointId) :
    s.pendingOf (.point p) = ((s.point? p).map Point.pending).getD Pending.clear := by
  cases h : s.point? p <;> simp [State.pendingOf, h]

theorem State.pendingOf_interlock (s : State) (i : EntryIx) :
    s.pendingOf (.interlock i) = ((s.entry? i).map Entry.pending).getD Pending.clear := by
  cases h : s.entry? i <;> simp [State.pendingOf, h]

theorem State.mayReport_point (s : State) (p : PointId) :
    s.mayReport (.point p) = ((s.point? p).map Point.report).getD false := by
  cases h : s.point? p <;> simp [State.mayReport, h]

/-- A map of one point's record changes no field that it keeps. -/
theorem State.point?_modifyPoint_map {α : Type} {g : Point → α} {f : Point → Point} (hg : ∀ r, g (f r) = g r)
    (s : State) (p q : PointId) : ((s.modifyPoint p f).point? q).map g = (s.point? q).map g := by
  rw [State.point?_modifyPoint]
  split
  · simp [Option.map_map, Function.comp_def, hg]
  · rfl

@[simp] theorem State.queue_noteRecorded (s : State) (k : Key) : (s.noteRecorded k).queue = s.queue := by
  cases k <;> simp [State.noteRecorded]

@[simp] theorem State.entries_noteRecorded (s : State) (k : Key) : (s.noteRecorded k).entries = s.entries := by
  cases k <;> simp [State.noteRecorded]

@[simp] theorem State.queue_setPending (s : State) (k : Key) (m : Pending) : (s.setPending k m).queue = s.queue := by
  cases k <;> simp [State.setPending]

@[simp] theorem State.queue_stamp (s : State) (k : Key) : (s.stamp k).queue = s.queue := by
  cases k <;> simp [State.stamp]

@[simp] theorem State.entries_stamp (s : State) (k : Key) : (s.stamp k).entries = s.entries := by
  cases k <;> simp [State.stamp]

@[simp] theorem State.dev_stamp (s : State) (k : Key) : (s.stamp k).dev = s.dev := by
  cases k <;> simp [State.stamp]

@[simp] theorem State.pendingOf_noteRecorded (s : State) (k j : Key) : (s.noteRecorded k).pendingOf j = s.pendingOf j := by
  cases k with
  | point p =>
    cases j with
    | point q =>
      rw [State.pendingOf_point, State.pendingOf_point, State.noteRecorded, State.point?_modifyPoint_map]
      exact fun r => r.pending_setRecorded _
    | _ => simp [State.noteRecorded, State.pendingOf]
  | _ => rfl

@[simp] theorem State.pendingOf_stamp (s : State) (k j : Key) : (s.stamp k).pendingOf j = s.pendingOf j := by
  cases k with
  | point p =>
    cases j with
    | point q =>
      rw [State.pendingOf_point, State.pendingOf_point, State.stamp, State.point?_modifyPoint_map]
      exact fun _ => rfl
    | _ => simp [State.stamp, State.pendingOf]
  | _ => rfl

@[simp] theorem State.stampOf_noteRecorded (s : State) (k j : Key) : (s.noteRecorded k).stampOf j = s.stampOf j := by
  cases j with
  | point q =>
    cases k with
    | point p => exact State.point?_modifyPoint_map (fun r => r.lastChange_setRecorded _) ..
    | _ => rfl
  | _ => rfl

@[simp] theorem State.stampOf_setPending (s : State) (k j : Key) (m : Pending) :
    (s.setPending k m).stampOf j = s.stampOf j := by
  cases j with
  | point q =>
    cases k with
    | point p => exact State.point?_modifyPoint_map (f := fun r => { r with pending := m }) (fun _ => rfl) ..
    | _ => simp [State.setPending, State.stampOf]
  | _ => rfl

/-- A mark is written on its own entity alone. -/
theorem State.pendingOf_setPending_of_ne (h : k ≠ k') (m : Pending) : (s.setPending k m).pendingOf k' = s.pendingOf k' := by
  cases k with
  | device => cases k' <;> simp_all [State.setPending, State.pendingOf]
  | line l =>
    cases k' with
    | line l' => simp [State.setPending, State.pendingOf, show l' ≠ l from fun e => h (e ▸ rfl)]
    | _ => simp [State.setPending, State.pendingOf]
  | interlock i =>
    cases k' with
    | interlock j =>
      simp [State.setPending, State.pendingOf_interlock, State.entry?_modifyEntry,
        show j ≠ i from fun e => h (e ▸ rfl)]
    | _ => simp [State.setPending, State.pendingOf]
  | point p =>
    cases k' with
    | point q =>
      simp [State.setPending, State.pendingOf_point, State.point?_modifyPoint, show q ≠ p from fun e => h (e ▸ rfl)]
    | _ => simp [State.setPending, State.pendingOf]

/-- A timestamp is written on its own point alone. -/
theorem State.stampOf_stamp_of_ne (h : k ≠ k') : (s.stamp k).stampOf k' = s.stampOf k' := by
  cases k with
  | point p =>
    cases k' with
    | point q =>
      simp [State.stamp, State.stampOf, State.point?_modifyPoint, show q ≠ p from fun e => h (e ▸ rfl)]
    | _ => rfl
  | _ => rfl

/-! ### What stays of it -/

/-- From `s` to `u` no notice of `k` is taken: its records stand where they stood, none appears, and its mark and timestamp are
as they were. -/
structure NoticeKept (k : Key) (s u : State) : Prop where
  record : ∀ (j : Nat) (r : Record), s.queue[j]? = some r → r.key = k → u.queue[j]? = some r
  absent : s.hasRecord k = false → u.hasRecord k = false
  pending : u.pendingOf k = s.pendingOf k
  stamp : u.stampOf k = s.stampOf k

theorem NoticeKept.refl (s : State) : NoticeKept k s s :=
  ⟨fun _ _ h _ => h, id, rfl, rfl⟩

theorem NoticeKept.trans (h : NoticeKept k s t) (g : NoticeKept k t u) : NoticeKept k s u :=
  ⟨fun j r hr hk => g.record j r (h.record j r hr hk) hk, g.absent ∘ h.absent, g.pending.trans h.pending,
    g.stamp.trans h.stamp⟩

theorem noticeKept_of_queue (hq : u.queue = s.queue) (hp : u.pendingOf k = s.pendingOf k)
    (hs : u.stampOf k = s.stampOf k) : NoticeKept k s u :=
  ⟨fun _ _ h _ => hq ▸ h, fun h => by rwa [State.hasRecord, hq], hp, hs⟩

theorem noticeKept_noteRecorded (s : State) (j : Key) : NoticeKept k s (s.noteRecorded j) :=
  noticeKept_of_queue (by simp) (by simp) (by simp)

theorem pendingOf_setQueue (s : State) (q : List Record) (k : Key) : (s.setQueue q).pendingOf k = s.pendingOf k := by
  cases k <;> rfl

theorem stampOf_setQueue (s : State) (q : List Record) (k : Key) : (s.setQueue q).stampOf k = s.stampOf k := by
  cases k <;> rfl

/-- Records of another key are rewritten. -/
theorem noticeKept_mapRecords {g : Record → Record} (hg : ∀ r, (g r).key = r.key) (hk : k' ≠ k) :
    NoticeKept k s (s.setQueue (s.queue.map fun r => if r.key = k' then g r else r)) where
  record j r hr hrk := by simp [hr, hrk, hk.symm]
  absent h := by
    simp only [State.hasRecord, State.queue_setQueue, List.any_eq_false, List.mem_map, decide_eq_true_eq] at h ⊢
    rintro _ ⟨r, hr, rfl⟩
    split
    · rw [hg]; exact h r hr
    · exact h r hr
  pending := pendingOf_setQueue ..
  stamp := stampOf_setQueue ..

/-- A record of another key is appended. -/
theorem noticeKept_append {x : Record} (hx : x.key ≠ k) : NoticeKept k s (s.setQueue (s.queue ++ [x])) where
  record j r hr _ := List.getElem?_append_left (List.getElem?_eq_some_iff.1 hr).1 ▸ hr
  absent h := by simpa [State.hasRecord, hx] using h
  pending := pendingOf_setQueue ..
  stamp := stampOf_setQueue ..

theorem noticeKept_takeNotice (hk : k' ≠ k) : NoticeKept k s (s.takeNotice k') := by
  unfold State.takeNotice
  split
  · split
    · exact (noticeKept_mapRecords (g := fun r => r.folded _ _) (fun _ => rfl) hk).trans (noticeKept_noteRecorded _ _)
    · split
      · exact (noticeKept_append hk).trans (noticeKept_noteRecorded _ _)
      · exact noticeKept_of_queue (by simp) (State.pendingOf_setPending_of_ne hk _) (by simp)
  · exact .refl _

/-! ### The end of the event (R148) -/

@[simp] theorem State.entries_refresh (s : State) (k : Key) : (s.refresh k).entries = s.entries := by
  unfold State.refresh
  split
  · split <;> simp
  · rfl

@[simp] theorem Work.entries_finish (w : Work) : w.finish.entries = w.st.entries := by
  have key (ks : List Key) (s : State) : (ks.foldl State.refresh s).entries = s.entries := by
    induction ks generalizing s with
    | nil => rfl
    | cons k ks ih => rw [List.foldl_cons, ih, State.entries_refresh]
  exact key _ _

/-- A point presents the same whatever the queue has written on its record. -/
theorem State.presented_unreported (s : State) (p : PointId) (r : Point) :
    s.presented p r.unreported = s.presented p r := by
  obtain ⟨pl, rep, q, c, f, pe, lc, b⟩ := r
  cases b <;> rfl

theorem State.presentedRange_unreported (s : State) (p : PointId) (r : Point) :
    s.presentedRange p r.unreported = s.presentedRange p r := by
  obtain ⟨pl, rep, q, c, f, pe, lc, b⟩ := r
  cases b <;> rfl

theorem Point.quality_unreported (r : Point) : r.unreported.quality = r.quality := by
  unfold Point.unreported Point.setRecorded
  split <;> rfl

theorem Point.forced_unreported (r : Point) : r.unreported.forced = r.forced := by
  unfold Point.unreported Point.setRecorded
  split <;> rfl

/-- A point's reported state is computed from what the queue does not write. -/
theorem State.payload_point (s : State) (p : PointId) :
    s.payload (.point p) = ((s.point? p).map Point.unreported).map fun r =>
      .point r.quality r.forced (s.presentedRange p r) (s.presented p r) := by
  simp [State.payload, Function.comp_def, Point.quality_unreported, Point.forced_unreported,
    State.presentedRange_unreported, State.presented_unreported]

theorem AgreesBy.payload_eq (h : AgreesButQueue s u) (k : Key) : u.payload k = s.payload k := by
  cases k with
  | device =>
    have hd := h.dev
    simp only [Device.quiet, Device.mk.injEq] at hd
    simp [State.payload, hd]
  | line l =>
    have hl := h.lines l
    simp only [Line.quiet, Line.mk.injEq] at hl
    simp [State.payload, hl]
  | interlock i =>
    have hi := congrArg (Option.map fun e : Entry => Payload.interlock e.state e.cause) (h.entries i)
    simpa [State.payload, Function.comp_def, Entry.unreported] using hi
  | point p =>
    rw [State.payload_point, State.payload_point, h.points p]
    simp only [State.presentedRange, State.presented, State.forceOf, h.forces]

/-- A record follows its own entity to its state, and no other. -/
theorem queue_refresh {j : Nat} {r : Record} {pl : Payload} (hr : s.queue[j]? = some r) (hpl : s.payload r.key = some pl)
    (k : Key) : (s.refresh k).queue[j]? = some (if r.key = k then { r with payload := pl } else r) := by
  unfold State.refresh
  by_cases hk : r.key = k
  · subst hk
    have hrec : s.hasRecord r.key = true := by
      simpa [State.hasRecord] using ⟨r, List.mem_of_getElem? hr, rfl⟩
    simp [hpl, hrec, hr]
  · split
    · split <;> simp [hr, hk]
    · simp [hr, hk]

/-- The end of the event brings the record of every entity that raised a notice to the entity's final state, with its fold count
and time as they stand. -/
theorem queue_finish {w : Work} {j : Nat} {r : Record} {pl : Payload} (hr : w.st.queue[j]? = some r)
    (hraised : r.key ∈ w.raised) (hpl : w.st.payload r.key = some pl) :
    w.finish.queue[j]? = some { r with payload := pl } := by
  have key (ks : List Key) (s : State) (r : Record) (hr : s.queue[j]? = some r) (hpl : s.payload r.key = some pl) :
      (ks.foldl State.refresh s).queue[j]? = some (if r.key ∈ ks then { r with payload := pl } else r) := by
    induction ks generalizing s r with
    | nil => simpa using hr
    | cons k ks ih =>
      rw [List.foldl_cons]
      have hpl' : (s.refresh k).payload r.key = some pl := ((agrees_refresh s k).payload_eq _).trans hpl
      by_cases hk : r.key = k
      · rw [ih _ { r with payload := pl } (by simpa [hk] using queue_refresh hr hpl k) hpl']
        simp [hk]
      · rw [ih _ r (by simpa [hk] using queue_refresh hr hpl k) hpl']
        simp [hk]
  rw [Work.finish, key _ _ r hr hpl, if_pos hraised]

theorem hasRecord_refresh (s : State) (k k' : Key) : (s.refresh k).hasRecord k' = s.hasRecord k' := by
  unfold State.refresh
  split
  · split
    · simp only [State.hasRecord, State.queue_noteRecorded, State.queue_setQueue, List.any_map, Function.comp_def]
      congr 1
      funext r
      split <;> rfl
    · rfl
  · rfl

theorem pendingOf_refresh (s : State) (k k' : Key) : (s.refresh k).pendingOf k' = s.pendingOf k' := by
  unfold State.refresh
  split
  · split
    · rw [State.pendingOf_noteRecorded, pendingOf_setQueue]
    · rfl
  · rfl

theorem stampOf_refresh (s : State) (k k' : Key) : (s.refresh k).stampOf k' = s.stampOf k' := by
  unfold State.refresh
  split
  · split
    · rw [State.stampOf_noteRecorded, stampOf_setQueue]
    · rfl
  · rfl

/-- The end of an event writes no mark and no timestamp and makes no record. -/
theorem finish_keeps (w : Work) (k : Key) :
    w.finish.hasRecord k = w.st.hasRecord k ∧ w.finish.pendingOf k = w.st.pendingOf k ∧
      w.finish.stampOf k = w.st.stampOf k := by
  have key (ks : List Key) (s : State) :
      (ks.foldl State.refresh s).hasRecord k = s.hasRecord k ∧ (ks.foldl State.refresh s).pendingOf k = s.pendingOf k ∧
        (ks.foldl State.refresh s).stampOf k = s.stampOf k := by
    induction ks generalizing s with
    | nil => exact ⟨rfl, rfl, rfl⟩
    | cons j ks ih => simpa only [List.foldl_cons, hasRecord_refresh, pendingOf_refresh, stampOf_refresh] using ih (s.refresh j)
  exact key _ _

end Sys2Proof.Machine
end

section
/-! What the work of an event does to an entity whose notice it has raised, operation by operation, and the notice that an event
begins with (R23, R50, R148 to R151). -/

namespace Sys2Proof.Machine

variable {s t : State} {w v x : Work} {k : Key} {pl : Payload}

/-! ### Stores that write no notice -/

theorem noticeKept_setPoint {q : PointId} {old new : Point} (ho : s.point? q = some old)
    (hp : new.pending = old.pending) (hl : new.lastChange = old.lastChange) : NoticeKept k s (s.setPoint q new) := by
  refine noticeKept_of_queue rfl ?_ ?_
  · cases k with
    | point p =>
      rw [State.pendingOf_point, State.pendingOf_point, State.point?_setPoint]
      by_cases h : p = q <;> simp [h, ho, hp]
    | _ => rfl
  · cases k with
    | point p =>
      rw [State.stampOf, State.stampOf, State.point?_setPoint]
      by_cases h : p = q <;> simp [h, ho, hl]
    | _ => rfl

theorem noticeKept_setEntry {i : EntryIx} {old new : Entry} (ho : s.entry? i = some old)
    (hp : new.pending = old.pending) : NoticeKept k s (s.setEntry i new) := by
  refine noticeKept_of_queue rfl ?_ (by cases k <;> rfl)
  cases k with
  | interlock j =>
    rw [State.pendingOf_interlock, State.pendingOf_interlock, State.entry?_setEntry]
    by_cases h : j = i <;> simp [h, ho, hp]
  | _ => rfl

theorem tableSorted_modifyEntry {i : EntryIx} {f : Entry → Entry} (hs : tableSorted s.entries = true) :
    tableSorted (s.modifyEntry i f).entries = true := by
  unfold State.modifyEntry
  split
  · exact tableSorted_tableSet hs
  · exact hs

theorem tableSorted_takeNotice (k : Key) (hs : tableSorted s.entries = true) :
    tableSorted (s.takeNotice k).entries = true := by
  unfold State.takeNotice
  split
  · split
    · simpa using hs
    · split
      · simpa using hs
      · cases k with
        | interlock i => exact tableSorted_modifyEntry hs
        | _ => simpa [State.setPending] using hs
  · exact hs

/-! ### The work of an event goes on -/

/-- From `w` to `v` the work of one event goes on: the entries stay in order, and where `k` has raised its notice, that notice
stands as it was taken. -/
structure Work.Follows (k : Key) (w v : Work) : Prop where
  sorted : tableSorted w.st.entries = true → tableSorted v.st.entries = true
  raised : k ∈ w.raised → k ∈ v.raised
  kept : k ∈ w.raised → NoticeKept k w.st v.st

theorem Work.Follows.refl (w : Work) : Work.Follows k w w :=
  ⟨id, id, fun _ => .refl _⟩

theorem Work.Follows.trans (h : Work.Follows k w v) (g : Work.Follows k v x) : Work.Follows k w x :=
  ⟨g.sorted ∘ h.sorted, g.raised ∘ h.raised, fun hk => (h.kept hk).trans (g.kept (h.raised hk))⟩

theorem follows_foldl {α : Type} {f : Work → α → Work} (h : ∀ w a, Work.Follows k w (f w a)) (l : List α) (w : Work) :
    Work.Follows k w (l.foldl f w) := by
  induction l generalizing w with
  | nil => exact .refl w
  | cons a l ih => exact (h w a).trans (ih _)

theorem follows_put (hs : tableSorted w.st.entries = true → tableSorted t.entries = true) (h : NoticeKept k w.st t) :
    Work.Follows k w (w.put t) :=
  ⟨hs, id, fun _ => h⟩

theorem notice_of_raised (h : k ∈ w.raised) : w.notice k = w := by
  simp [Work.notice, h]

theorem notice_of_not_raised (h : k ∉ w.raised) : w.notice k = ⟨(w.st.stamp k).takeNotice k, w.raised ++ [k]⟩ := by
  simp [Work.notice, h]

/-- An entity's second notice of an event is none, and another entity's writes on its own record alone. -/
theorem follows_notice (w : Work) (j : Key) : Work.Follows k w (w.notice j) := by
  by_cases hj : j ∈ w.raised
  · rw [notice_of_raised hj]
    exact .refl w
  · rw [notice_of_not_raised hj]
    refine ⟨fun hs => tableSorted_takeNotice j (by simpa using hs), fun hk => List.mem_append_left _ hk, fun hk => ?_⟩
    have hjk : j ≠ k := fun e => hj (e ▸ hk)
    exact (noticeKept_of_queue (by simp) (by simp) (State.stampOf_stamp_of_ne hjk)).trans (noticeKept_takeNotice hjk)

theorem pending_trackRecorded (old new : Point) : (trackRecorded old new).pending = new.pending := by
  unfold trackRecorded
  split
  · split <;> simp
  · rfl

theorem lastChange_trackRecorded (old new : Point) : (trackRecorded old new).lastChange = new.lastChange := by
  unfold trackRecorded
  split
  · split <;> simp
  · rfl

theorem follows_storePoint {q : PointId} {old new : Point} (ho : w.st.point? q = some old)
    (hp : new.pending = old.pending) (hl : new.lastChange = old.lastChange) :
    Work.Follows k w (w.storePoint q old new) := by
  have hput : Work.Follows k w (w.put (w.st.setPoint q (trackRecorded old new))) :=
    follows_put id (noticeKept_setPoint ho ((pending_trackRecorded ..).trans hp) ((lastChange_trackRecorded ..).trans hl))
  unfold Work.storePoint
  dsimp only
  split
  · exact hput.trans (follows_notice _ _)
  · exact hput

theorem follows_storeEntry {i : EntryIx} {old new : Entry} (ho : w.st.entry? i = some old)
    (hp : new.pending = old.pending) : Work.Follows k w (w.storeEntry i old new) := by
  have hput : Work.Follows k w (w.put (w.st.setEntry i new)) :=
    follows_put tableSorted_tableSet (noticeKept_setEntry ho hp)
  unfold Work.storeEntry
  dsimp only
  split
  · exact hput.trans (follows_notice _ _)
  · exact hput

theorem follows_regate (w : Work) (p : PointId) : Work.Follows k w (w.regate p) := by
  unfold Work.regate
  split
  next r hr =>
    split
    · exact follows_storePoint hr rfl rfl
    · exact .refl w
  · exact .refl w

theorem startRelease_keeps (e : Entry) : e.startRelease.target = e.target ∧ e.startRelease.pending = e.pending := by
  unfold Entry.startRelease
  split <;> exact ⟨rfl, rfl⟩

/-- A settled entry keeps its target and its mark. -/
theorem settle_keeps (e : Entry) (terms : List Term) :
    (e.settle terms).target = e.target ∧ (e.settle terms).pending = e.pending := by
  unfold Entry.settle
  split
  · exact startRelease_keeps _
  all_goals exact ⟨rfl, rfl⟩

theorem follows_evalEntry (changed : List PointId) (w : Work) (i : EntryIx) :
    Work.Follows k w (Work.evalEntry changed w i) := by
  unfold Work.evalEntry
  split
  next e he =>
    split
    · exact (follows_storeEntry he (settle_keeps e _).2).trans (follows_regate _ _)
    · exact .refl w
  · exact .refl w

theorem follows_evaluate (w : Work) (changed : List PointId) : Work.Follows k w (w.evaluate changed) :=
  follows_foldl (follows_evalEntry changed) _ _

theorem follows_drive (w : Work) (p : PointId) : Work.Follows k w (w.drive p) := by
  unfold Work.drive
  dsimp only
  split
  · exact (follows_regate w p).trans (follows_evaluate _ _)
  · exact follows_regate w p

/-- A recomputed derived point keeps its mark and its timestamp. -/
theorem derive_keeps (s : State) (r : Point) (f : DerivedFields) :
    (s.derive r f).pending = r.pending ∧ (s.derive r f).lastChange = r.lastChange := by
  unfold State.derive
  split <;> exact ⟨rfl, rfl⟩

theorem follows_recompute (acc : Work × List PointId) (d : PointId) :
    Work.Follows k acc.1 (Work.recompute acc d).1 := by
  unfold Work.recompute
  split
  next r hr =>
    split
    next f _ => exact follows_storePoint hr (derive_keeps _ r f).1 (derive_keeps _ r f).2
    · exact .refl _
  · exact .refl _

theorem follows_recomputes (ids : List PointId) (acc : Work × List PointId) :
    Work.Follows k acc.1 (ids.foldl Work.recompute acc).1 := by
  induction ids generalizing acc with
  | nil => exact .refl _
  | cons d ids ih => exact (follows_recompute acc d).trans (ih _)

theorem follows_handOn (w : Work) (p : PointId) : Work.Follows k w (w.handOn p) :=
  (follows_recomputes _ (w, [p])).trans (follows_evaluate _ _)

/-! ### The notice an event begins with (R148 to R151) -/

theorem payload_stamp (s : State) (k : Key) : (s.stamp k).payload k = s.payload k :=
  (agrees_stamp s k).payload_eq k

theorem mayReport_stamp (s : State) (k : Key) : (s.stamp k).mayReport k = s.mayReport k := by
  cases k with
  | point p =>
    rw [State.mayReport_point, State.mayReport_point, State.stamp, State.point?_modifyPoint_map]
    exact fun _ => rfl
  | _ => rfl

/-- The mark of a defined entity reads back as it was written. -/
theorem pendingOf_setPending_self (hpl : s.payload k = some pl) (m : Pending) :
    (s.setPending k m).pendingOf k = m := by
  cases k with
  | device => rfl
  | line l => simp [State.setPending, State.pendingOf]
  | interlock i =>
    obtain ⟨e, he, -⟩ := Option.map_eq_some_iff.1 hpl
    simp [State.setPending, State.pendingOf_interlock, State.entry?_modifyEntry, he]
  | point p =>
    obtain ⟨r, hr, -⟩ := Option.map_eq_some_iff.1 hpl
    simp [State.setPending, State.pendingOf_point, State.point?_modifyPoint, hr]

/-- A notice folds its entity's record in place (R150). -/
theorem takeNotice_folds {j : Nat} {r : Record} (hmay : s.mayReport k = true) (hpl : s.payload k = some pl)
    (hr : s.queue[j]? = some r) (hk : r.key = k) :
    (s.takeNotice k).queue[j]? = some ⟨k, pl, min (r.fold + 1) 255, s.dev.tick⟩ := by
  subst hk
  have hrec : s.hasRecord r.key = true := by
    simpa [State.hasRecord] using ⟨r, List.mem_of_getElem? hr, rfl⟩
  simp [State.takeNotice, hmay, hpl, hrec, hr, Record.folded, saturate]

/-- With no record and room in the queue, a notice appends one (R149). -/
theorem takeNotice_appends (hmay : s.mayReport k = true) (hpl : s.payload k = some pl) (hrec : s.hasRecord k = false)
    (hroom : s.queue.length < 64) :
    (s.takeNotice k).queue[s.queue.length]? = some ⟨k, pl, 1, s.dev.tick⟩ := by
  simp [State.takeNotice, hmay, hpl, hrec, queueCapacity, hroom]

/-- A mark counts the notices that found the queue full, up to 255 (R151). -/
theorem Pending.noted_eq (m : Pending) : m.noted = if m.marked then ⟨true, min (m.count + 1) 255⟩ else ⟨true, 1⟩ := by
  unfold Pending.noted
  split
  next h => rw [saturate, h]
  · rfl

/-- With no record and a full queue, a notice marks its entity (R151). -/
theorem takeNotice_marks (hmay : s.mayReport k = true) (hpl : s.payload k = some pl) (hrec : s.hasRecord k = false)
    (hfull : 64 ≤ s.queue.length) :
    (s.takeNotice k).hasRecord k = false ∧ (s.takeNotice k).pendingOf k = (s.pendingOf k).noted := by
  have hmark : s.takeNotice k = s.setPending k (s.pendingOf k).noted := by
    simp [State.takeNotice, hmay, hpl, hrec, queueCapacity, Nat.not_lt.2 hfull]
  rw [hmark]
  exact ⟨by simpa [State.hasRecord] using hrec, pendingOf_setPending_self hpl _⟩

@[simp] theorem stampOf_takeNotice (s : State) (k j : Key) : (s.takeNotice k).stampOf j = s.stampOf j := by
  unfold State.takeNotice
  split
  · split
    · rw [State.stampOf_noteRecorded, stampOf_setQueue]
    · split
      · rw [State.stampOf_noteRecorded, stampOf_setQueue]
      · rw [State.stampOf_setPending]
  · rfl

/-- Where the work of an event goes on from the first notice of `k`, the event that ends with it has noticed `k`: what the notice
wrote stands, and the record follows `k` to its final state. -/
theorem noticed_finish {pl₀ : Payload} (hk : k ∉ w.raised) (hpl₀ : w.st.payload k = some pl₀)
    (hv : Work.Follows k (w.notice k) v) (hpl : v.st.payload k = some pl) : noticed w.st v.finish k := by
  rw [notice_of_not_raised hk] at hv
  have hin : k ∈ w.raised ++ [k] := by simp
  have hkept := hv.kept hin
  obtain ⟨habsent, hpending, -⟩ := finish_keeps v k
  intro hmay
  replace hmay := (mayReport_stamp w.st k).trans hmay
  replace hpl₀ := (payload_stamp w.st k).trans hpl₀
  refine ⟨pl, ((agrees_finish v).payload_eq k).trans hpl, fun j r hr hrk => ?_, fun hrec hroom => ?_, fun hrec hfull => ?_⟩
  · have htaken := takeNotice_folds hmay hpl₀ (j := j) (r := r) (by simpa using hr) hrk
    simpa using queue_finish (hkept.record j _ htaken rfl) (hv.raised hin) hpl
  · have htaken := takeNotice_appends hmay hpl₀ (by simpa [State.hasRecord] using hrec) (by simpa using hroom)
    simpa using queue_finish (hkept.record _ _ htaken rfl) (hv.raised hin) hpl
  · have htaken := takeNotice_marks hmay hpl₀ (by simpa [State.hasRecord] using hrec) (by simpa using hfull)
    rw [habsent, hpending, hkept.pending, htaken.2, State.pendingOf_stamp]
    exact ⟨hkept.absent htaken.1, Pending.noted_eq _⟩

/-- Such an event leaves the tick of its beginning as the timestamp of a point that it began with (R23). -/
theorem lastChange_finish {p : PointId} {r : Point} (hk : .point p ∉ w.raised) (hr : w.st.point? p = some r)
    (hv : Work.Follows (.point p) (w.notice (.point p)) v) :
    (v.finish.point? p).map Point.lastChange = some w.st.dev.tick := by
  rw [notice_of_not_raised hk] at hv
  have hstamp : (w.st.stamp (.point p)).stampOf (.point p) = some w.st.dev.tick := by
    simp [State.stamp, State.stampOf, State.point?_modifyPoint, hr]
  calc (v.finish.point? p).map Point.lastChange
      = v.st.stampOf (.point p) := (finish_keeps v (.point p)).2.2
    _ = some w.st.dev.tick := by rw [(hv.kept (by simp)).stamp, stampOf_takeNotice, hstamp]

end Sys2Proof.Machine
end

section
/-! The effective value an event leaves on a point it drives: the one R59 gives, whatever the terms on the point do (R61, R62). -/

namespace Sys2Proof.Machine

variable {s u : State} {p : PointId}

/-! ### R59 as the model computes it -/

/-- The first row of R59 that applies is the one the five rows written out pick. -/
theorem gate_eq_outputRule (s : State) (p : PointId) (r : Point) (f : DoFields) : s.gate p r f = outputRule s p r f := by
  have hperm : (∃ e ∈ s.entries, e.2.target = p ∧ e.2.state ≠ .permit) ↔ ¬ s.permitted p = true := by
    simp [State.permitted]
  unfold State.gate outputRule
  simp only [hperm, ite_not]
  cases s.dev.mode with
  | config => simp
  | safe => cases s.dev.safeAction <;> simp
  | run => simp

/-- R59 reads the mode, the permits of the point, its forced flag, and what it presents while forced. -/
theorem gate_congr {r r' : Point} (hmode : u.dev.mode = s.dev.mode) (haction : u.dev.safeAction = s.dev.safeAction)
    (hperm : u.permitted p = s.permitted p) (hforced : r'.forced = r.forced)
    (hpres : r.forced = true → u.presented p r' = s.presented p r) (f : DoFields) : u.gate p r' f = s.gate p r f := by
  have hrun : (if r'.forced then decide (u.presented p r' = 1) else f.commanded)
      = if r.forced then decide (s.presented p r = 1) else f.commanded := by
    rw [hforced]
    split
    next h => rw [hpres h]
    · rfl
  simp only [State.gate, hmode, haction, hperm, hrun]

theorem gated_iff : Gated s p ↔ ∀ r f, s.point? p = some r → r.body = .dout f → f.effective = s.gate p r f := by
  simp only [Gated, gate_eq_outputRule]

/-- Every DO point is gated where the gating invariant holds. -/
theorem GateInv.gated (h : GateInv s) (p : PointId) : Gated s p := by
  intro r f hr hf
  have hrow := h (p, r) (tableGet_mem hr)
  simpa only [hf] using hrow

/-- In a sorted table, the permits of a point are read off by index. -/
theorem permitted_iff (hs : tableSorted s.entries = true) :
    s.permitted p = true ↔ ∀ i e, s.entry? i = some e → e.target ≠ p ∨ e.state = .permit := by
  simp only [State.permitted, List.all_eq_true, Bool.or_eq_true, decide_eq_true_eq]
  exact ⟨fun h i e he => h (i, e) (tableGet_mem he), fun h x hx => h x.1 x.2 (tableGet_of_mem hs hx)⟩

theorem AgreesBy.permitted_eq (h : AgreesButQueue s u) (hs : tableSorted s.entries = true)
    (hu : tableSorted u.entries = true) (p : PointId) : u.permitted p = s.permitted p := by
  have mono {s u : State} (h : AgreesButQueue s u) (hs : tableSorted s.entries = true)
      (hu : tableSorted u.entries = true) (hp : s.permitted p = true) : u.permitted p = true := by
    rw [permitted_iff hu]
    intro i e' he'
    have hi := h.entries i
    rw [he', Option.map_some, eq_comm, Option.map_eq_some_iff] at hi
    obtain ⟨e, he, heq⟩ := hi
    simp only [Entry.unreported, Entry.mk.injEq] at heq
    have hrow := (permitted_iff hs).1 hp i e he
    rwa [heq.1, heq.2.2.2.2.1] at hrow
  exact Bool.eq_iff_iff.2 ⟨mono h.symm hu hs, mono h hs hu⟩

/-! ### What keeps a point gated -/

theorem Gated.congr (h : Gated s p) (hdev : u.dev.quiet = s.dev.quiet) (hforces : u.forces = s.forces)
    (hperm : u.permitted p = s.permitted p)
    (hpoint : (u.point? p).map Point.unreported = (s.point? p).map Point.unreported) : Gated u p := by
  rw [gated_iff] at h ⊢
  intro r' f hr' hf
  rw [hr', Option.map_some, eq_comm, Option.map_eq_some_iff] at hpoint
  obtain ⟨r, hr, heq⟩ := hpoint
  have hbody : r.body = .dout f := by
    obtain ⟨pl, rep, q, c, fo, pe, lc, b⟩ := r
    obtain ⟨pl', rep', q', c', fo', pe', lc', b'⟩ := r'
    cases b <;> simp_all [Point.unreported, Point.setRecorded]
  have hforced : r'.forced = r.forced := by
    rw [← r'.forced_unreported, ← heq, r.forced_unreported]
  have hpres : u.presented p r' = s.presented p r := by
    rw [← u.presented_unreported, ← heq, u.presented_unreported]
    simp only [State.presented, State.forceOf, hforces]
  simp only [Device.quiet, Device.mk.injEq] at hdev
  exact (h r f hr hbody).trans (gate_congr hdev.1 hdev.2.1 hperm hforced (fun _ => hpres) f).symm

theorem Gated.agrees (h : Gated s p) (hu : AgreesButQueue s u) (hs : tableSorted s.entries = true)
    (hsu : tableSorted u.entries = true) : Gated u p :=
  h.congr hu.dev hu.forces (hu.permitted_eq hs hsu p) (hu.points p)

/-- A point whose forced flag is set stands on the Force List (R71). -/
def Listed (s : State) (p : PointId) : Prop :=
  ∀ r, s.point? p = some r → r.forced = true → s.forceOf p ≠ none

theorem Listed.agrees (h : Listed s p) (hu : Agrees s u) : Listed u p := by
  intro r' hr' hf
  have hp := hu.points p
  rw [hr', Option.map_some, eq_comm, Option.map_eq_some_iff] at hp
  obtain ⟨r, hr, heq⟩ := hp
  simp only [Point.quiet, Point.mk.injEq] at heq
  rw [State.forceOf, hu.forces]
  exact h r hr (heq.2.2.2.2.1.trans hf)

theorem presented_of_forced {r : Point} {e : ForceEntry} (hr : r.forced = true) (he : s.forceOf p = some e) :
    s.presented p r = e.value := by
  simp [State.presented, hr, he]

/-- A listed point presents its force value while forced, so what its own record presents does not enter R59. -/
theorem gate_setPoint {r r' : Point} (hl : Listed s p) (hr : s.point? p = some r) (hforced : r'.forced = r.forced)
    (f : DoFields) : (s.setPoint p r').gate p r' f = s.gate p r f := by
  refine gate_congr rfl rfl rfl hforced (fun h => ?_) f
  obtain ⟨e, he⟩ := Option.ne_none_iff_exists'.1 (hl r hr h)
  exact (presented_of_forced (hforced.trans h) he).trans (presented_of_forced h he).symm

/-! ### What an event's operations do to it -/

theorem gated_of_not_output (h : ∀ r f, s.point? p = some r → r.body ≠ .dout f) : Gated s p :=
  fun r f hr hf => absurd hf (h r f hr)

/-- A recomputed effective value is the one R59 gives (R61). -/
theorem gated_regate {w : Work} (hs : tableSorted w.st.entries = true) (hl : Listed w.st p) :
    Gated (w.regate p).st p := by
  have hs' := (follows_regate (k := .point p) w p).sorted hs
  revert hs'
  unfold Work.regate
  split
  next r hr =>
    split
    next f hf =>
      intro hs'
      refine Gated.agrees (gated_iff.2 fun r' f' hr' hf' => ?_) (agrees_storePoint w p r _) hs hs'
      rw [State.point?_setPoint, if_pos rfl, Option.some_inj] at hr'
      subst hr'
      obtain rfl := PointBody.dout.inj hf'
      exact (gate_setPoint (r' := { r with body := .dout { f with effective := w.st.gate p r f } }) hl hr rfl f).symm
    next hno => exact fun _ => gated_of_not_output fun r' f hr' hf => hno f (by rwa [Option.some_inj.1 (hr.symm.trans hr')])
  next hnone => exact fun _ => gated_of_not_output fun r f hr _ => by simp [hnone] at hr

/-- Another point's effective value does not enter R59. -/
theorem Gated.regate_of_ne {w : Work} {q : PointId} (h : Gated w.st p) (hs : tableSorted w.st.entries = true)
    (hq : p ≠ q) : Gated (w.regate q).st p := by
  have hs' := (follows_regate (k := .point p) w q).sorted hs
  revert hs'
  unfold Work.regate
  split
  next r hr =>
    split
    · refine fun hs' => Gated.agrees ?_ (agrees_storePoint w q r _) hs hs'
      exact h.congr rfl rfl rfl (by simp [hq])
    · exact fun _ => h
  · exact fun _ => h

/-- An entry that targets another point does not enter R59. -/
theorem permitted_setEntry_of_ne {i : EntryIx} {old new : Entry} (hs : tableSorted s.entries = true)
    (ho : s.entry? i = some old) (ht : old.target ≠ p) (ht' : new.target ≠ p) :
    (s.setEntry i new).permitted p = s.permitted p := by
  rw [Bool.eq_iff_iff, permitted_iff (tableSorted_tableSet hs), permitted_iff hs]
  refine forall_congr' fun j => ?_
  rw [State.entry?_setEntry]
  split
  next h => simp [h, ho, ht, ht']
  · rfl

/-- An evaluated entry leaves every listed point gated: the entry's target is gated again, and the others do not read it (R50). -/
theorem Gated.evalEntry {w : Work} (h : Gated w.st p) (hs : tableSorted w.st.entries = true) (hl : Listed w.st p)
    (changed : List PointId) (i : EntryIx) : Gated (Work.evalEntry changed w i).st p := by
  unfold Work.evalEntry
  split
  next e he =>
    split
    · obtain ⟨htarget, hpending⟩ := settle_keeps e (evalTerms w.st changed e.terms)
      have hs' := (follows_storeEntry (k := .point p) he hpending).sorted hs
      have hstore := agrees_storeEntry w i e (e.settle (evalTerms w.st changed e.terms))
      by_cases hp : e.target = p
      · subst hp
        refine gated_regate hs' (hl.agrees (AgreesBy.trans ?_ hstore.weaken))
        exact agreesBy_setEntry he (by rw [Entry.quiet_settle]; simp [Entry.quiet])
      · refine Gated.regate_of_ne ?_ hs' (Ne.symm hp)
        refine Gated.agrees ?_ hstore (tableSorted_tableSet hs) hs'
        exact h.congr rfl rfl (permitted_setEntry_of_ne hs he hp (htarget ▸ hp)) rfl
    · exact h
  · exact h

theorem Gated.evaluate {w : Work} (h : Gated w.st p) (hs : tableSorted w.st.entries = true) (hl : Listed w.st p)
    (changed : List PointId) : Gated (w.evaluate changed).st p := by
  have key (ids : List EntryIx) (w : Work) (h : Gated w.st p) (hs : tableSorted w.st.entries = true)
      (hl : Listed w.st p) : Gated (ids.foldl (Work.evalEntry changed) w).st p := by
    induction ids generalizing w with
    | nil => exact h
    | cons i ids ih =>
      exact ih _ (h.evalEntry hs hl changed i) ((follows_evalEntry (k := .point p) changed w i).sorted hs)
        (hl.agrees (agrees_evalEntry changed w i))
  exact key _ w h hs hl

/-- A driven point is gated, also where its own change moves entries that target it (R61, R62). -/
theorem gated_drive {w : Work} (hs : tableSorted w.st.entries = true) (hl : Listed w.st p) :
    Gated (w.drive p).st p := by
  have hgate := gated_regate hs hl
  unfold Work.drive
  dsimp only
  split
  · exact hgate.evaluate ((follows_regate (k := .point p) w p).sorted hs) (hl.agrees (agrees_regate w p)) _
  · exact hgate

theorem Gated.finish {w : Work} (h : Gated w.st p) (hs : tableSorted w.st.entries = true) : Gated w.finish p :=
  h.agrees (agrees_finish w) hs (by simpa using hs)

end Sys2Proof.Machine
end

section
/-! FORCE: the Force List, the order of R75, and the request (R71 to R75). -/

namespace Sys2Proof.Machine

variable {s t u : State} {p : PointId} {r : Point}

/-! ### The Force List (R71, R73) -/

/-- A point's position, counted from 1, is where its entry stands. -/
theorem getElem?_forcePosition (s : State) (p : PointId) : s.forces[forcePosition p s.forces - 1]? = s.forceOf p := by
  rw [forcePosition, Nat.add_sub_cancel, State.forceOf, List.find?_eq_getElem?_findIdx]

theorem forceOf_eq_none : s.forceOf p = none ↔ ∀ f ∈ s.forces, f.point ≠ p := by
  simp [State.forceOf]

theorem point_of_forceOf {f : ForceEntry} (h : s.forceOf p = some f) : f.point = p := by
  simpa using List.find?_some h

/-- A point that is not on the list has the position behind the last. -/
theorem forcePosition_of_none (h : s.forceOf p = none) : forcePosition p s.forces = s.forces.length + 1 := by
  rw [forcePosition, List.findIdx_eq_length_of_false]
  simpa [forceOf_eq_none] using h

/-- A point that is not on the list is placed at its end (R73). -/
theorem placeForce_of_none {e : ForceEntry} (h : s.forceOf e.point = none) : placeForce e s.forces = s.forces ++ [e] := by
  rw [placeForce, if_neg]
  simpa [forceOf_eq_none] using h

theorem map_replace_eq_set (e : ForceEntry) {fs : List ForceEntry} (hn : (fs.map ForceEntry.point).Nodup) :
    (fs.map fun f => if f.point = e.point then e else f) = fs.set (fs.findIdx fun f => f.point = e.point) e := by
  induction fs with
  | nil => rfl
  | cons f fs ih =>
    obtain ⟨hfresh, hn⟩ := List.nodup_cons.1 hn
    by_cases hf : f.point = e.point
    · have hother (g) (hg : g ∈ fs) : g.point ≠ e.point :=
        fun hge => hfresh (List.mem_map.2 ⟨g, hg, hge.trans hf.symm⟩)
      have hrest : (fs.map fun g => if g.point = e.point then e else g) = fs :=
        (List.map_congr_left (g := id) fun g hg => if_neg (hother g hg)).trans (List.map_id fs)
      simp [List.findIdx_cons, hf, hrest]
    · simp [List.findIdx_cons, hf, ih hn]

/-- On a list without repetitions, a listed point's entry is replaced in place (R73). -/
theorem placeForce_of_some {e : ForceEntry} (hn : (s.forces.map ForceEntry.point).Nodup) (h : s.forceOf e.point ≠ none) :
    placeForce e s.forces = s.forces.set (forcePosition e.point s.forces - 1) e := by
  rw [placeForce, if_pos, map_replace_eq_set e hn, forcePosition, Nat.add_sub_cancel]
  simpa [forceOf_eq_none] using h

/-- Placing the entry that already stands changes nothing. -/
theorem set_forcePosition_self {e : ForceEntry} (h : s.forceOf p = some e) :
    s.forces.set (forcePosition p s.forces - 1) e = s.forces := by
  obtain ⟨hi, hget⟩ := List.getElem?_eq_some_iff.1 ((getElem?_forcePosition s p).trans h)
  exact hget ▸ List.set_getElem_self hi

theorem forceOf_placeForce (s : State) (e : ForceEntry) : (s.setForces (placeForce e s.forces)).forceOf e.point ≠ none := by
  rw [Ne, forceOf_eq_none, State.forces_setForces, placeForce]
  split
  next h =>
    obtain ⟨f, hf, hp⟩ := List.any_eq_true.1 h
    exact fun hno => hno e (List.mem_map.2 ⟨f, hf, if_pos (by simpa using hp)⟩) rfl
  · exact fun hno => hno e (by simp) rfl

/-- A point on the list has its forced flag set (R71). -/
theorem ForceInv.forced_of_listed (h : ForceInv s) (hr : s.point? p = some r) (hp : s.forceOf p ≠ none) :
    r.forced = true := by
  obtain ⟨-, -, -, hflag, -⟩ := h
  rw [hflag (p, r) (tableGet_mem hr)]
  simpa [forceOf_eq_none] using hp

/-! ### The order of R75 -/

@[simp] theorem State.entries_recordUnreported (s : State) (p : PointId) : (s.recordUnreported p).entries = s.entries := by
  simp [State.recordUnreported]

@[simp] theorem State.queue_recordUnreported (s : State) (p : PointId) : (s.recordUnreported p).queue = s.queue := by
  simp [State.recordUnreported]

@[simp] theorem State.dev_recordUnreported (s : State) (p : PointId) : (s.recordUnreported p).dev = s.dev := by
  simp [State.recordUnreported]

/-- A last recorded value is written on the point's record alone, and no field of it but that one (R35). -/
theorem State.point?_recordUnreported_map {α : Type} {g : Point → α} (hg : ∀ r v, g (Point.setRecorded r v) = g r)
    (s : State) (p q : PointId) : ((s.recordUnreported p).point? q).map g = (s.point? q).map g := by
  refine State.point?_modifyPoint_map (fun r => ?_) s p q
  split
  · rfl
  · exact hg r _

theorem agrees_recordUnreported (s : State) (p : PointId) : AgreesButQueue s (s.recordUnreported p) := by
  refine agreesBy_modifyPoint _ _ fun r => ?_
  split
  · rfl
  · exact r.unreported_setRecorded _

/-- A changed force's notice and hand-on, before its output is driven, touch no more than notices and hand-ons do. -/
theorem agrees_forceHandedOn (w : Work) (p : PointId) :
    Agrees w.st (((w.put (w.st.recordUnreported p)).notice (.point p)).handOn p).st :=
  ((agrees_recordUnreported w.st p).trans (agrees_notice (w.put _) _)).weaken.trans (agrees_handOn _ p)

/-- A change of a point's force touches no more than notices and hand-ons do. -/
theorem agrees_forceChanged (w : Work) (p : PointId) : Agrees w.st (w.forceChanged p).st :=
  (agrees_forceHandedOn w p).trans (agrees_drive _ p)

/-- After the notice of R75, the point's derived points, terms and output follow. -/
theorem follows_forceChanged (w : Work) (p : PointId) (k : Key) :
    Work.Follows k ((w.put (w.st.recordUnreported p)).notice (.point p)) (w.forceChanged p) :=
  (follows_handOn _ p).trans (follows_drive _ p)

theorem sorted_forceHandedOn {w : Work} (hs : tableSorted w.st.entries = true) (p : PointId) :
    tableSorted (((w.put (w.st.recordUnreported p)).notice (.point p)).handOn p).st.entries = true :=
  ((follows_notice (k := .point p) _ _).trans (follows_handOn _ p)).sorted (by simpa using hs)

/-- A listed point is gated at the end of the event that changes its force (R75). -/
theorem gated_forceChanged {w : Work} (hs : tableSorted w.st.entries = true) (hl : Listed w.st p) :
    Gated (w.forceChanged p).finish p := by
  have hs' := sorted_forceHandedOn hs p
  exact (gated_drive hs' (hl.agrees (agrees_forceHandedOn w p))).finish ((follows_drive (k := .point p) _ p).sorted hs')

/-- `noticed` reads, of the state at the event's begin, the queue, the tick, the entity's mark and whether it may report. -/
theorem noticed_congr {k : Key} (hq : t.queue = s.queue) (htick : t.dev.tick = s.dev.tick)
    (hmay : t.mayReport k = s.mayReport k) (hmark : t.pendingOf k = s.pendingOf k) (h : noticed t u k) : noticed s u k := by
  simpa only [noticed, State.hasRecord, hq, htick, hmay, hmark] using h

theorem AgreesBy.point?_isSome {fp : Point → Point} {fe : Entry → Entry} (h : AgreesBy fp fe s u)
    (hr : s.point? p = some r) : ∃ r', u.point? p = some r' := by
  have hp := h.points p
  rw [hr, Option.map_some, Option.map_eq_some_iff] at hp
  obtain ⟨r', hr', -⟩ := hp
  exact ⟨r', hr'⟩

theorem payload_of_point (hr : s.point? p = some r) :
    s.payload (.point p) = some (.point r.quality r.forced (s.presentedRange p r) (s.presented p r)) :=
  Option.map_eq_some_iff.2 ⟨r, hr, rfl⟩

/-- The event of a changed force begins with the point's notice, and stamps the point (R23, R75, R148). -/
theorem noticed_forceChanged (hr : s.point? p = some r) :
    noticed s (Work.forceChanged ⟨s, []⟩ p).finish (.point p) ∧
      ((Work.forceChanged ⟨s, []⟩ p).finish.point? p).map Point.lastChange = some s.dev.tick := by
  obtain ⟨r₁, hr₁⟩ := (agrees_recordUnreported s p).point?_isSome hr
  obtain ⟨r₂, hr₂⟩ := (agrees_forceChanged ⟨s, []⟩ p).point?_isSome hr
  have hfirst : Key.point p ∉ (Work.put ⟨s, []⟩ (s.recordUnreported p)).raised := List.not_mem_nil
  have hfollows := follows_forceChanged ⟨s, []⟩ p (.point p)
  refine ⟨noticed_congr (by simp) (by simp) ?_ ?_
    (noticed_finish hfirst (payload_of_point hr₁) hfollows (payload_of_point hr₂)), ?_⟩
  · rw [State.mayReport_point, State.mayReport_point, Work.put_st, State.point?_recordUnreported_map]
    exact Point.report_setRecorded
  · rw [State.pendingOf_point, State.pendingOf_point, Work.put_st, State.point?_recordUnreported_map]
    exact Point.pending_setRecorded
  · rw [lastChange_finish hfirst hr₁ hfollows, Work.put_st, State.dev_recordUnreported]

/-! ### The event of a FORCE -/

/-- The state in which a force that changes something is placed, before its notice (R73). -/
def State.forcePlaced (s : State) (e : ForceEntry) : State :=
  (s.setForces (placeForce e s.forces)).modifyPoint e.point fun r => { r with forced := true }

theorem takeForce_same {e : ForceEntry} (h : s.forceOf e.point = some e) : s.takeForce e = s :=
  if_pos h

theorem takeForce_changed {e : ForceEntry} (h : s.forceOf e.point ≠ some e) :
    s.takeForce e = (Work.forceChanged ⟨s.forcePlaced e, []⟩ e.point).finish :=
  if_neg h

theorem point?_forcePlaced {e : ForceEntry} (hr : s.point? e.point = some r) :
    (s.forcePlaced e).point? e.point = some { r with forced := true } := by
  simp [State.forcePlaced, State.point?_modifyPoint, hr]

theorem listed_forcePlaced (s : State) (e : ForceEntry) : Listed (s.forcePlaced e) e.point := by
  intro _ _ _
  simpa [State.forcePlaced, State.forceOf] using forceOf_placeForce s e

/-- A FORCE that changes something places its entry, and touches no more than notices and hand-ons do (R73, R75). -/
theorem agrees_takeForce {e : ForceEntry} (h : s.forceOf e.point ≠ some e) : Agrees (s.forcePlaced e) (s.takeForce e) := by
  rw [takeForce_changed h]
  exact (agrees_forceChanged ⟨s.forcePlaced e, []⟩ _).trans (agrees_finish _).weaken

theorem gated_takeForce {e : ForceEntry} (h : s.forceOf e.point ≠ some e) (hs : tableSorted s.entries = true) :
    Gated (s.takeForce e) e.point := by
  rw [takeForce_changed h]
  exact gated_forceChanged (by simpa [State.forcePlaced] using hs) (listed_forcePlaced s e)

theorem noticed_takeForce {e : ForceEntry} (h : s.forceOf e.point ≠ some e) (hr : s.point? e.point = some r) :
    noticed s (s.takeForce e) (.point e.point) ∧
      ((s.takeForce e).point? e.point).map Point.lastChange = some s.dev.tick := by
  rw [takeForce_changed h]
  obtain ⟨hnoticed, hstamp⟩ := noticed_forceChanged (point?_forcePlaced hr)
  refine ⟨noticed_congr (by simp [State.forcePlaced]) (by simp [State.forcePlaced]) ?_ ?_ hnoticed, ?_⟩
  · rw [State.mayReport_point, State.mayReport_point, point?_forcePlaced hr, hr]
    rfl
  · rw [State.pendingOf_point, State.pendingOf_point, point?_forcePlaced hr, hr]
    rfl
  · rw [hstamp]
    simp [State.forcePlaced]

/-- The reply queue is not a FORCE's to change. -/
theorem port_takeForce (s : State) (e : ForceEntry) : (s.takeForce e).port = s.port := by
  by_cases h : s.forceOf e.point = some e
  · rw [takeForce_same h]
  · rw [(agrees_takeForce h).port]
    simp [State.forcePlaced]

/-- A point new on the list is placed at its end, with its forced flag set (R73). -/
theorem agrees_takeForce_append {e : ForceEntry} (h : s.forceOf e.point = none) :
    Agrees ((s.setForces (s.forces ++ [e])).modifyPoint e.point fun r => { r with forced := true }) (s.takeForce e) := by
  rw [← placeForce_of_none h]
  exact agrees_takeForce (by simp [h])

/-- A listed point's entry is replaced in place; its forced flag is set already (R73). -/
theorem agrees_takeForce_replace {e : ForceEntry} (hf : ForceInv s) (hr : s.point? e.point = some r)
    (h : s.forceOf e.point ≠ none) :
    Agrees (s.setForces (s.forces.set (forcePosition e.point s.forces - 1) e)) (s.takeForce e) := by
  by_cases hsame : s.forceOf e.point = some e
  · rw [takeForce_same hsame, set_forcePosition_self hsame]
    exact AgreesBy.refl s
  · have ⟨_, hnodup, _⟩ := hf
    rw [← placeForce_of_some hnodup h]
    refine AgreesBy.trans ?_ (agrees_takeForce hsame)
    have hforced := hf.forced_of_listed hr h
    have hset : s.forcePlaced e = (s.setForces (placeForce e s.forces)).setPoint e.point { r with forced := true } := by
      simp [State.forcePlaced, State.modifyPoint, hr]
    rw [hset, ← hforced]
    exact agreesBy_setPoint (State.point?_setForces s _ _ ▸ hr) rfl

/-! ### The request -/

/-- The dispatch gives FORCE to the Force List (R73). -/
theorem exec_force (tag : Byte) (ps : List Byte) (s : State) :
    exec (.force tag ps) s = runRequest 0x14 tag (force ps) s :=
  rfl

/-- The byte of a point id reads back as that id (R184). -/
theorem idOf_idByte (p : PointId) : idOf (idByte p) = p := by
  simp [idOf, idByte, byteOf]

/-- A signed field reads back as the number it was (R183). -/
theorem intAt_wordBytes (b : Byte) (v : Word16) : intAt (b :: wordBytes v) 1 = v.toInt :=
  congrArg BitVec.toInt (wordOf_extractLsb' v)

/-- The five checks passed, the value a FORCE carries is taken and its reply names the point's position (R73). -/
theorem force_accepted {v : Word16} {x : Int × RangeFlag} (hm : s.dev.mode = .run) (hr : s.point? p = some r)
    (hx : takenForce r v.toInt = some x) (hroom : s.forceOf p ≠ none ∨ s.forces.length < 16) :
    force (idByte p :: wordBytes v) s = (s.takeForce ⟨p, x.1, x.2⟩,
      .reply .ok ([idByte p] ++ intBytes x.1 ++ [x.2.code, byteOf (forcePosition p s.forces)])) := by
  have hlen : (idByte p :: wordBytes v).length = 3 := rfl
  have hid : idOf (byteAt (idByte p :: wordBytes v) 0) = p := idOf_idByte p
  have hfits : ¬ ((s.forceOf p).isNone ∧ 16 ≤ s.forces.length) := by
    rcases hroom with h | h
    · simp [h]
    · exact fun hno => absurd hno.2 (Nat.not_le.2 h)
  simp only [force, hm, hlen, hid, hr, intAt_wordBytes, hx, hfits, ne_eq, not_true_eq_false, if_false]

/-- Settles O23: the request through `runRequest`, its effect by whether the force changes the list. -/
theorem forcesPoints : Obligations.ForcesPoints := by
  intro tag p v r s ht hm hsafe hr hdiscrete hroom x e
  obtain ⟨⟨-, hsorted, -⟩, -, -, hforce, -, -, hgate, -⟩ := hsafe
  have hx : takenForce r v.toInt = some x := by
    cases ha : r.analog? with
    | some a => simp [takenForce, clampRange, x, ha]
    | none =>
      rcases hdiscrete ha with rfl | rfl <;> simp [takenForce, x, ha]
  have hreplies : ((taken s).takeForce e).port.replies = s.port.replies := by
    rw [port_takeForce]
    rfl
  refine ⟨(taken s).takeForce e, forcePosition p s.forces, ?_, fun hnone => ?_, fun hlisted => ?_, fun hsame => ?_, ?_,
    fun hchanged => ?_⟩
  · exact (exec_force ..).trans
      (runRequest_answered _ _ ht (force_accepted hm hr hx hroom) hreplies)
  · exact ⟨forcePosition_of_none hnone, agrees_takeForce_append (s := taken s) (e := e) hnone⟩
  · obtain ⟨f, hf⟩ := Option.ne_none_iff_exists'.1 hlisted
    refine ⟨?_, agrees_takeForce_replace (s := taken s) (e := e) hforce hr hlisted⟩
    rw [getElem?_forcePosition, hf, Option.map_some, point_of_forceOf hf]
  · exact takeForce_same (s := taken s) (e := e) hsame
  · by_cases hsame : s.forceOf p = some e
    · rw [takeForce_same (s := taken s) (e := e) hsame]
      exact hgate.gated p
    · exact gated_takeForce (s := taken s) (e := e) hsame hsorted
  · exact noticed_takeForce (s := taken s) (e := e) hchanged hr

end Sys2Proof.Machine
end

section
/-! SET LINE: how its fields are read and clamped, and the request (R112, R113). -/

namespace Sys2Proof.Machine

/-! ### Fields (R183) -/

/-- In order limits, bringing a number into its range is a maximum of a minimum. -/
theorem clampNat_eq {lo hi : Nat} (h : lo ≤ hi) (n : Nat) : clampNat lo hi n = max lo (min n hi) := by
  unfold clampNat
  split_ifs <;> omega

/-- A 16-bit field carries every number below 65536. -/
theorem toNat_wordOf_natBytes {n : Nat} (h : n < 65536) :
    (wordOf ((BitVec.ofNat 16 n).extractLsb' 8 8) ((BitVec.ofNat 16 n).extractLsb' 0 8)).toNat = n := by
  rw [wordOf_extractLsb', BitVec.toNat_ofNat, Nat.mod_eq_of_lt h]

theorem natBytes_toNat (w : Word16) : natBytes w.toNat = wordBytes w := by
  rw [natBytes, BitVec.ofNat_toNat, BitVec.setWidth_eq]

theorem byteOf_toNat (b : Byte) : byteOf b.toNat = b := by
  rw [byteOf, BitVec.ofNat_toNat, BitVec.setWidth_eq]

/-- An 8-bit field carries every number below 256. -/
theorem toNat_byteOf {n : Nat} (h : n < 256) : (byteOf n).toNat = n := by
  rw [byteOf, BitVec.toNat_ofNat, Nat.mod_eq_of_lt h]

@[simp] theorem flagOf?_flagByte (b : Bool) : flagOf? (flagByte b) = some b := by
  cases b <;> rfl

@[simp] theorem rateOf?_rateCode (r : Option Rate) : rateOf? (rateCode r) = some r := by
  rcases r with _ | (_ | _ | _) <;> rfl

@[simp] theorem polaritySettingOf?_code (p : PolaritySetting) : polaritySettingOf? p.code = some p := by
  cases p <;> rfl

@[simp] theorem lineOf?_lineCode (l : LineNo) : lineOf? (lineCode l) = some l := by
  cases l <;> rfl

theorem flagOf?_of_ge {b : Byte} (h : 2 ≤ b.toNat) : flagOf? b = none := by
  unfold flagOf?
  split
  case h_3 => rfl
  all_goals omega

theorem rateOf?_of_ge {b : Byte} (h : 4 ≤ b.toNat) : rateOf? b = none := by
  unfold rateOf?
  split
  case h_5 => rfl
  all_goals omega

theorem polaritySettingOf?_of_ge {b : Byte} (h : 2 ≤ b.toNat) : polaritySettingOf? b = none := by
  unfold polaritySettingOf?
  split
  case h_3 => rfl
  all_goals omega

theorem lineOf?_of_ge {b : Byte} (h : 3 ≤ b.toNat) : lineOf? b = none := by
  unfold lineOf?
  split
  case h_4 => rfl
  all_goals omega

/-! ### The settings a SET LINE carries (R112, R113) -/

/-- Settings that the fields of a SET LINE can carry, with image sizes it does not refuse (R112). -/
structure LineSettings.Carried (c : LineSettings) : Prop where
  pollPeriod : c.pollPeriod < 65536
  replyTimeout : c.replyTimeout < 65536
  holdLimit : c.holdLimit < 65536
  retryLimit : c.retryLimit < 256
  staleLimit : c.staleLimit < 256
  lossLimit : c.lossLimit < 256
  diBytes : c.diBytes ≤ 8
  doBytes : c.doBytes ≤ 8
  aiChannels : c.aiChannels ≤ 8

/-- Settings brought into the ranges of R113, the loss limit held to the stale limit as taken. -/
def LineSettings.clamped (c : LineSettings) : LineSettings :=
  { c with
    pollPeriod := max 500 (min c.pollPeriod 20000)
    replyTimeout := max 100 (min c.replyTimeout 5000)
    retryLimit := min c.retryLimit 3
    staleLimit := max 1 (min c.staleLimit 15)
    lossLimit := max (max 1 (min c.staleLimit 15)) (min c.lossLimit 31)
    holdLimit := max 500 (min c.holdLimit 30000) }

/-- The layout of SET LINE reads back as the settings it was made from, clamped. -/
theorem readSettings_bytes (l : LineNo) {c : LineSettings} (h : c.Carried) :
    readSettings (lineCode l :: c.bytes) = some c.clamped := by
  have hdi : (byteOf c.diBytes).toNat = c.diBytes := toNat_byteOf (h.diBytes.trans_lt (by decide))
  have hdo : (byteOf c.doBytes).toNat = c.doBytes := toNat_byteOf (h.doBytes.trans_lt (by decide))
  have hai : (byteOf c.aiChannels).toNat = c.aiChannels := toNat_byteOf (h.aiChannels.trans_lt (by decide))
  simp [readSettings, sizesFit, byteAt, natAt, LineSettings.bytes, natBytes, wordBytes, LineSettings.clamped, hdi, hdo, hai,
    h.diBytes, h.doBytes, h.aiChannels, toNat_wordOf_natBytes h.pollPeriod, toNat_wordOf_natBytes h.replyTimeout,
    toNat_wordOf_natBytes h.holdLimit, toNat_byteOf h.retryLimit, toNat_byteOf h.staleLimit, toNat_byteOf h.lossLimit,
    clampNat_eq]

/-- A flag, a rate or a polarity without a meaning, or an image size above 8, leaves no settings to take (R112). -/
theorem readSettings_refused {ps : List Byte}
    (h : 2 ≤ (byteAt ps 1).toNat ∨ 4 ≤ (byteAt ps 2).toNat ∨ 2 ≤ (byteAt ps 3).toNat ∨ 9 ≤ (byteAt ps 11).toNat ∨
      9 ≤ (byteAt ps 12).toNat ∨ 9 ≤ (byteAt ps 13).toNat ∨ 2 ≤ (byteAt ps 15).toNat) : readSettings ps = none := by
  unfold readSettings
  split
  next he hr hp hx =>
    refine if_neg ?_
    rcases h with h | h | h | h | h | h | h
    · simp [flagOf?_of_ge h] at he
    · simp [rateOf?_of_ge h] at hr
    · simp [polaritySettingOf?_of_ge h] at hp
    · simp [sizesFit, Nat.not_le.2 h]
    · simp [sizesFit, Nat.not_le.2 h]
    · simp [sizesFit, Nat.not_le.2 h]
    · simp [flagOf?_of_ge h] at hx
  next => rfl

/-! ### The request -/

/-- The dispatch gives SET LINE to the Drop Line Engines (R112). -/
theorem exec_setLine (tag : Byte) (ps : List Byte) (s : State) :
    exec (.setLine tag ps) s = runRequest 0x30 tag (setLineRequest ps) s :=
  rfl

theorem setLineRequest_notConfig (ps : List Byte) {s : State} (h : s.dev.mode ≠ .config) :
    setLineRequest ps s = refuse s .mode :=
  if_pos h

theorem setLineRequest_badLength {ps : List Byte} {s : State} (h : s.dev.mode = .config) (hl : ps.length ≠ 19) :
    setLineRequest ps s = refuse s .badLength := by
  simp [setLineRequest, h, hl]

theorem setLineRequest_badValue {ps : List Byte} {s : State} (h : s.dev.mode = .config) (hl : ps.length = 19)
    (hv : lineOf? (byteAt ps 0) = none ∨ readSettings ps = none) : setLineRequest ps s = refuse s .badValue := by
  rcases hv with hv | hv <;> simp [setLineRequest, h, hl, hv]

/-- Settings that a SET LINE carries replace the line's, clamped, and are returned as taken (R112). -/
theorem setLineRequest_takes (l : LineNo) {c : LineSettings} (hc : c.Carried) {s : State} (h : s.dev.mode = .config) :
    setLineRequest (lineCode l :: c.bytes) s
      = (s.setLine l { s.line l with settings := c.clamped }, .reply .ok (lineCode l :: c.clamped.bytes)) := by
  have hlen : (lineCode l :: c.bytes).length = 19 := rfl
  have hline : lineOf? (byteAt (lineCode l :: c.bytes) 0) = some l := lineOf?_lineCode l
  simp only [setLineRequest, h, hlen, hline, readSettings_bytes l hc, ne_eq, not_true_eq_false, if_false]

/-- Settles O29: each refusal through `runRequest`; what is taken are the settings carried, read back and clamped. -/
theorem setsLines : Obligations.SetsLines := by
  refine ⟨fun tag ps s ht => ⟨fun hm => ?_, fun hm hl => ?_⟩, fun tag s ht hm => ⟨?_, fun ps hl hv => ?_⟩⟩
  · exact (exec_setLine ..).trans (runRequest_refused _ _ ht (setLineRequest_notConfig _ hm))
  · exact (exec_setLine ..).trans (runRequest_refused _ _ ht (setLineRequest_badLength hm hl))
  · intro l enable exact rate pol period timeout hold retry stale loss type serial di dout ai hdi hdo hai
    let carried : LineSettings := {
      enable := enable, rate := rate, polarity := pol, pollPeriod := period.toNat, replyTimeout := timeout.toNat
      retryLimit := retry.toNat, staleLimit := stale.toNat, lossLimit := loss.toNat, diBytes := di, doBytes := dout
      aiChannels := ai, expectedType := type, exact := exact, serial := serial, holdLimit := hold.toNat }
    have hc : carried.Carried :=
      ⟨period.isLt, timeout.isLt, hold.isLt, retry.isLt, stale.isLt, loss.isLt, hdi, hdo, hai⟩
    have hps : lineCode l :: carried.bytes
        = [lineCode l, flagByte enable, rateCode rate, pol.code] ++ wordBytes period ++ wordBytes timeout
          ++ [retry, stale, loss] ++ [byteOf di, byteOf dout, byteOf ai, type, flagByte exact, serial] ++ wordBytes hold := by
      simp [carried, LineSettings.bytes, natBytes_toNat, byteOf_toNat]
    have htakes := setLineRequest_takes l hc (s := taken s) hm
    rw [hps] at htakes
    exact (exec_setLine ..).trans (runRequest_answered _ _ ht htakes rfl)
  · refine (exec_setLine ..).trans (runRequest_refused _ _ ht (setLineRequest_badValue hm hl ?_))
    exact hv.imp lineOf?_of_ge readSettings_refused

end Sys2Proof.Machine
end

section
/-! The poll timer: what an expiry loads, and the ticks its cycles add up to (R114, R115). -/

namespace Sys2Proof.Machine

/-! ### What the transmitter's choice leaves of a line -/

/-- A line without its transfer's slot and its pending mark, the fields the transmitter's choice may write (R152, R165). -/
def Line.unserved (L : Line) : Line :=
  { L with transfer := none, pending := Pending.clear }

theorem AgreesBy.unserved_eq {fp : Point → Point} {fe : Entry → Entry} {s u : State} (h : AgreesBy fp fe s u) (l : LineNo) :
    (u.line l).unserved = (s.line l).unserved := by
  have hquiet := congrArg Line.unserved (h.lines l)
  exact hquiet

theorem unserved_serveWaiting (s : State) (l : LineNo) : (s.serveWaiting.line l).unserved = (s.line l).unserved := by
  unfold State.serveWaiting
  split
  · split
    · rfl
    next m _ _ =>
      rw [State.line_setPort, State.line_setLine]
      split
      next h => rw [h]; rfl
      next => rfl
    · split <;> rfl
  · rfl

theorem unserved_startReply (s : State) (l : LineNo) : (s.startReply.line l).unserved = (s.line l).unserved := by
  unfold State.startReply
  split
  · exact unserved_serveWaiting _ l
  · rfl

theorem unserved_startReport (s : State) (l : LineNo) : (s.startReport.line l).unserved = (s.line l).unserved := by
  unfold State.startReport
  split
  · split
    · exact (agrees_drainHead _).unserved_eq l
    · rfl
  · rfl

/-- The transmitter's choice writes no other field of a line (R166). -/
theorem unserved_choose (s : State) (l : LineNo) : (s.choose.line l).unserved = (s.line l).unserved :=
  (unserved_startReport _ l).trans (unserved_startReply s l)

/-! ### An expiry of the poll timer (R115, R116) -/

/-- A telegram handed to the sender leaves the poll timer and A as they are (R94). -/
theorem handOver_keepsPoll (L : Line) (t : Telegram) :
    (L.handOver t).pollTimer = L.pollTimer ∧ (L.handOver t).accumulator = L.accumulator := by
  unfold Line.handOver Line.beginTurn
  split
  case h_3 => exact ⟨rfl, rfl⟩
  all_goals split <;> exact ⟨rfl, rfl⟩

theorem buildAttempt_keepsPoll (s : State) (l : LineNo) (n : Nat) :
    ((s.buildAttempt l n).line l).pollTimer = (s.line l).pollTimer ∧
      ((s.buildAttempt l n).line l).accumulator = (s.line l).accumulator := by
  unfold State.buildAttempt
  rw [State.line_setLine_self]
  exact handOver_keepsPoll _ _

/-- An expiry of a running poll timer loads a cycle, whether it starts an exchange or is a slip (R115). -/
theorem pollExpired_loadsCycle {s : State} {l : LineNo} (hstate : (s.line l).state = .operate)
    (htimer : (s.line l).pollTimer ≠ none) :
    ((s.pollExpired l).line l).pollTimer = (s.line l).loadCycle.pollTimer ∧
      ((s.pollExpired l).line l).accumulator = (s.line l).loadCycle.accumulator := by
  unfold State.pollExpired
  rw [if_pos ⟨hstate, Option.isSome_iff_ne_none.2 htimer⟩]
  split
  · simp
  · simpa using buildAttempt_keepsPoll (s.setLine l (s.line l).loadCycle) l 1

/-- Out of reset, POLL_TIMER_EXPIRY is the timer's expiry, followed by the transmitter's choice (R116, R166). -/
theorem exec_pollTimerExpiry (l : LineNo) {s : State} (h : s.dev.inReset = false) :
    exec (.pollTimerExpiry l) s = .next (s.pollExpired l).choose :=
  runCommand_running (fun s => s.pollExpired l) h

/-! ### The cycles of a running timer (R115) -/

theorem settings_loadCycles (L : Line) (n : Nat) : (Line.loadCycle^[n] L).settings = L.settings := by
  induction n with
  | zero => rfl
  | succ n ih => rwa [Function.iterate_succ_apply']

/-- Started with A = 0, the timer keeps in A the remainder of all its cycles' microseconds. -/
theorem accumulator_loadCycles (L : Line) (n : Nat) :
    (Line.loadCycle^[n] L.startPoll).accumulator = (n + 1) * (L.settings.pollPeriod * 32768) % 1000000 := by
  induction n with
  | zero => simp [Line.startPoll, Line.loadCycle]
  | succ n ih =>
    have hset : (Line.loadCycle^[n] L.startPoll).settings = L.settings := settings_loadCycles L.startPoll n
    rw [Function.iterate_succ_apply', Line.loadCycle, ih, hset]
    dsimp only
    rw [Nat.mod_add_mod, ← Nat.succ_mul]

/-- The ticks of a cycle of a timer started with A = 0; cycle 0 is its first. -/
def Line.cycleTicks (L : Line) (n : Nat) : Nat :=
  (Line.loadCycle^[n] L.startPoll).pollTimer.getD 0

theorem cycleTicks_eq (L : Line) (n : Nat) :
    L.cycleTicks n
      = (n * (L.settings.pollPeriod * 32768) % 1000000 + L.settings.pollPeriod * 32768) / 1000000 := by
  cases n with
  | zero => simp [Line.cycleTicks, Line.startPoll, Line.loadCycle]
  | succ n =>
    have hset : (Line.loadCycle^[n] L.startPoll).settings = L.settings := settings_loadCycles L.startPoll n
    rw [Line.cycleTicks, Function.iterate_succ_apply', Line.loadCycle, accumulator_loadCycles, hset]
    rfl

/-- Loading with the remainder kept loses nothing: each cycle ends where the schedule without rounding has it end. -/
theorem sum_cycleTicks (L : Line) (n : Nat) :
    ((List.range n).map L.cycleTicks).sum = n * (L.settings.pollPeriod * 32768) / 1000000 := by
  induction n with
  | zero => simp
  | succ n ih =>
    rw [List.range_succ, List.map_append, List.sum_append, ih, List.map_singleton, List.sum_singleton, cycleTicks_eq,
      Nat.succ_mul]
    omega

/-- Settles O34: an expiry loads a cycle, which nothing after it in the event changes; the cycles by `sum_cycleTicks`. -/
theorem pollCyclesKeepTheirSchedule : Obligations.PollCyclesKeepTheirSchedule := by
  refine ⟨fun l s hr hstate htimer => ?_, fun L hmin hmax => ⟨sum_cycleTicks L, fun n => ?_⟩⟩
  · obtain ⟨hcycle, hrest⟩ := pollExpired_loadsCycle hstate htimer
    have hkept := unserved_choose (s.pollExpired l) l
    exact ⟨_, exec_pollTimerExpiry l hr, (congrArg Line.pollTimer hkept).trans hcycle,
      (congrArg Line.accumulator hkept).trans hrest⟩
  · have hticks := cycleTicks_eq L n
    have hrest := accumulator_loadCycles L n
    have hbound : 16 ≤ L.cycleTicks n ∧ L.cycleTicks n ≤ 656 := by omega
    exact ⟨hbound.1, hbound.2, hrest ▸ Nat.mod_lt _ (by decide)⟩

end Sys2Proof.Machine
end

section
/-! The marked entities in their order of admission, and what writing or clearing a mark does to that order (R151, R152). -/

namespace Sys2Proof.Machine

variable {s u : State} {k : Key} {pl : Payload}

/-! ### The order of admission (R152) -/

/-- Every entity, in the order of admission: DEVICE, LINE, INTERLOCK, POINT, each by ascending index. -/
def Key.inOrder : List Key :=
  [.device] ++ allLines.map .line ++ (List.finRange 48).map .interlock ++ (List.finRange 256).map .point

theorem Key.mem_inOrder (k : Key) : k ∈ Key.inOrder := by
  rcases k with _ | l | i | p
  · simp [Key.inOrder]
  · cases l <;> simp [Key.inOrder, allLines]
  · simp [Key.inOrder]
  · simp [Key.inOrder]

theorem Key.nodup_inOrder : Key.inOrder.Nodup := by
  have hlines : (allLines.map Key.line).Nodup := by decide
  have hline : ∀ l ∈ allLines, ∀ k, ((∃ i, Key.interlock i = k) ∨ ∃ p, Key.point p = k) → ¬ Key.line l = k := by
    rintro l - k (⟨i, rfl⟩ | ⟨p, rfl⟩) <;> simp
  have hentries : ((List.finRange 48).map Key.interlock).Nodup :=
    (List.nodup_finRange 48).map fun _ _ => Key.interlock.inj
  have hpoints : ((List.finRange 256).map Key.point).Nodup :=
    (List.nodup_finRange 256).map fun _ _ => Key.point.inj
  simpa [Key.inOrder, List.nodup_append, hlines, hentries, hpoints] using hline

/-- In a sorted table, the rows that pass a test have the keys, ascending, whose record passes it. -/
theorem keys_filter_of_sorted {n : Nat} {α : Type} {t : List (Fin n × α)} (hs : tableSorted t = true) (f : α → Bool) :
    (t.filter fun e => f e.2).map Prod.fst = (List.finRange n).filter fun k => (tableGet k t).any f := by
  have hrows : ((t.filter fun e => f e.2).map Prod.fst).Pairwise (· < ·) :=
    (of_decide_eq_true hs).sublist (List.filter_sublist.map _)
  have hkeys : ((List.finRange n).filter fun k => (tableGet k t).any f).Pairwise (· < ·) :=
    (List.pairwise_lt_finRange n).filter _
  refine hrows.eq_of_mem_iff hkeys fun k => ?_
  simp only [List.mem_map, List.mem_filter, List.mem_finRange, true_and, Option.any_eq_true]
  constructor
  · rintro ⟨⟨j, v⟩, ⟨hmem, hf⟩, rfl⟩
    exact ⟨v, tableGet_of_mem hs hmem, hf⟩
  · rintro ⟨v, hget, hf⟩
    exact ⟨(k, v), ⟨tableGet_mem hget, hf⟩, rfl⟩

/-- Both tables stand in strictly ascending key, so that a scan of their rows and a lookup by key agree. -/
def State.Sorted (s : State) : Prop :=
  tableSorted s.points = true ∧ tableSorted s.entries = true

/-- The marked entities are those whose mark reads back as present, in the order of admission (R152). -/
theorem State.markedKeys_eq (hs : s.Sorted) :
    s.markedKeys = Key.inOrder.filter fun k => (s.pendingOf k).marked := by
  have hentries := keys_filter_of_sorted hs.2 fun e : Entry => e.pending.marked
  have hpoints := keys_filter_of_sorted hs.1 fun r : Point => r.pending.marked
  have hentry (i : EntryIx) : (tableGet i s.entries).any (fun e => e.pending.marked)
      = (s.pendingOf (.interlock i)).marked := by
    rw [State.pendingOf_interlock, State.entry?]
    cases tableGet i s.entries <;> rfl
  have hpoint (p : PointId) : (tableGet p s.points).any (fun r => r.pending.marked)
      = (s.pendingOf (.point p)).marked := by
    rw [State.pendingOf_point, State.point?]
    cases tableGet p s.points <;> rfl
  simp only [hentry] at hentries
  simp only [hpoint] at hpoints
  have hdevice : (if s.dev.pending.marked then [Key.device] else [])
      = [Key.device].filter fun k => (s.pendingOf k).marked := by
    rw [List.filter_singleton, Bool.cond_eq_ite]
    rfl
  simp only [State.markedKeys, Key.inOrder, List.filter_append, List.filter_map, hdevice]
  congr 1
  · congr 1
    exact (List.map_map ..).symm.trans (congrArg (List.map Key.interlock) hentries)
  · exact (List.map_map ..).symm.trans (congrArg (List.map Key.point) hpoints)

theorem State.mem_markedKeys (hs : s.Sorted) : k ∈ s.markedKeys ↔ (s.pendingOf k).marked = true := by
  simp [State.markedKeys_eq hs, Key.mem_inOrder]

theorem State.nodup_markedKeys (hs : s.Sorted) : s.markedKeys.Nodup := by
  rw [State.markedKeys_eq hs]
  exact Key.nodup_inOrder.filter _

/-- Where one entity's mark is absent and every other stands, that entity alone has left the order. -/
theorem State.markedKeys_of_cleared (hs : s.Sorted) (hu : u.Sorted) (hk : u.pendingOf k = Pending.clear)
    (hne : ∀ j, j ≠ k → u.pendingOf j = s.pendingOf j) : u.markedKeys = s.markedKeys.filter (· ≠ k) := by
  rw [State.markedKeys_eq hs, State.markedKeys_eq hu, List.filter_filter]
  refine List.filter_congr fun j _ => ?_
  by_cases hj : j = k
  · simp [hj, hk, Pending.clear]
  · simp [hj, hne j hj]

/-- A marked entity is defined, so it has a state to report (R148). -/
theorem State.payload_of_marked (h : (s.pendingOf k).marked = true) : ∃ pl, s.payload k = some pl := by
  cases k with
  | device => exact ⟨_, rfl⟩
  | line l => exact ⟨_, rfl⟩
  | interlock i => cases he : s.entry? i <;> simp_all [State.pendingOf, State.payload, Pending.clear]
  | point p => cases hr : s.point? p <;> simp_all [State.pendingOf, State.payload, Pending.clear]

/-! ### Other entities -/

theorem sameEntity.refl (s : State) (k : Key) : sameEntity s s k := by
  cases k <;> rfl

theorem sameEntity.trans {t : State} (h : sameEntity s t k) (g : sameEntity t u k) : sameEntity s u k := by
  cases k <;> exact Eq.trans g h

/-- An entity that stands as it stood has its mark and count as they were. -/
theorem sameEntity.pendingOf_eq (h : sameEntity s u k) : u.pendingOf k = s.pendingOf k := by
  cases k <;> simp_all [sameEntity, State.pendingOf]

theorem sameEntity_setQueue (s : State) (q : List Record) (k : Key) : sameEntity s (s.setQueue q) k := by
  cases k <;> rfl

theorem sameEntity_noteRecorded {j : Key} (h : j ≠ k) : sameEntity s (s.noteRecorded k) j := by
  cases k with
  | point p =>
    cases j with
    | point q => simp [State.noteRecorded, sameEntity, State.point?_modifyPoint, show q ≠ p from fun e => h (e ▸ rfl)]
    | _ => simp [State.noteRecorded, sameEntity]
  | _ => cases j <;> rfl

theorem sameEntity_setPending {j : Key} (h : j ≠ k) (m : Pending) : sameEntity s (s.setPending k m) j := by
  cases k with
  | device => cases j <;> simp_all [State.setPending, sameEntity]
  | line l =>
    cases j with
    | line l' => simp [State.setPending, sameEntity, show l' ≠ l from fun e => h (e ▸ rfl)]
    | _ => simp [State.setPending, sameEntity]
  | interlock i =>
    cases j with
    | interlock i' => simp [State.setPending, sameEntity, State.entry?_modifyEntry, show i' ≠ i from fun e => h (e ▸ rfl)]
    | _ => simp [State.setPending, sameEntity]
  | point p =>
    cases j with
    | point q => simp [State.setPending, sameEntity, State.point?_modifyPoint, show q ≠ p from fun e => h (e ▸ rfl)]
    | _ => simp [State.setPending, sameEntity]

/-! ### The tables stay in order -/

theorem State.Sorted.modifyPoint (hs : s.Sorted) (p : PointId) (f : Point → Point) : (s.modifyPoint p f).Sorted := by
  unfold State.modifyPoint
  split
  · exact ⟨tableSorted_tableSet hs.1, hs.2⟩
  · exact hs

theorem State.Sorted.modifyEntry (hs : s.Sorted) (i : EntryIx) (f : Entry → Entry) : (s.modifyEntry i f).Sorted :=
  ⟨by simpa using hs.1, tableSorted_modifyEntry hs.2⟩

theorem State.Sorted.noteRecorded (hs : s.Sorted) (k : Key) : (s.noteRecorded k).Sorted := by
  cases k with
  | point p => exact hs.modifyPoint p _
  | _ => exact hs

theorem State.Sorted.setPending (hs : s.Sorted) (k : Key) (m : Pending) : (s.setPending k m).Sorted := by
  cases k with
  | interlock i => exact hs.modifyEntry i _
  | point p => exact hs.modifyPoint p _
  | _ => exact hs

theorem State.Sorted.setQueue (hs : s.Sorted) (q : List Record) : (s.setQueue q).Sorted :=
  hs

theorem State.Sorted.admitOne (hs : s.Sorted) : s.admitOne.Sorted := by
  unfold State.admitOne
  split
  · exact hs
  · split
    · exact ((hs.setQueue _).noteRecorded _).setPending _ _
    · exact hs

end Sys2Proof.Machine
end

section
/-! READ CHANGES: what an admission leaves, departures one after another, the layout of a record, and the request (R35, R152,
R157, R184). -/

namespace Sys2Proof.Machine

variable {s t u : State} {k : Key} {pl : Payload} {gone : Key → Bool} {rest : List Record} {m n : Nat}

/-! ### One admission (R35, R152) -/

/-- The record with which an entity is admitted: its state, its pending count and the tick of the event. -/
def State.admissionRecord (s : State) (k : Key) (pl : Payload) : Record :=
  ⟨k, pl, (s.pendingOf k).count, s.dev.tick⟩

/-- The admission of one entity. -/
def State.withAdmitted (s : State) (k : Key) (pl : Payload) : State :=
  ((s.setQueue (s.queue ++ [s.admissionRecord k pl])).noteRecorded k).setPending k Pending.clear

theorem admitOne_of_unmarked (h : s.markedKeys = []) : s.admitOne = s := by
  simp [State.admitOne, h]

theorem admitOne_of_marked {more : List Key} (h : s.markedKeys = k :: more) (hpl : s.payload k = some pl) :
    s.admitOne = s.withAdmitted k pl := by
  simp [State.admitOne, h, hpl, State.withAdmitted, State.admissionRecord]

theorem queue_withAdmitted : (s.withAdmitted k pl).queue = s.queue ++ [s.admissionRecord k pl] := by
  simp [State.withAdmitted]

theorem State.Sorted.withAdmitted (hs : s.Sorted) : (s.withAdmitted k pl).Sorted :=
  ((hs.setQueue _).noteRecorded k).setPending k _

theorem agrees_withAdmitted : AgreesButQueue s (s.withAdmitted k pl) :=
  ((agreesBy_setQueue s _).trans (agrees_noteRecorded _ k)).trans (agrees_setPending _ k _)

theorem stampOf_withAdmitted (j : Key) : (s.withAdmitted k pl).stampOf j = s.stampOf j := by
  rw [State.withAdmitted, State.stampOf_setPending, State.stampOf_noteRecorded, stampOf_setQueue]

/-- An admission writes on the admitted entity alone. -/
theorem sameEntity_withAdmitted {j : Key} (h : j ≠ k) : sameEntity s (s.withAdmitted k pl) j :=
  (sameEntity_setQueue s _ j).trans ((sameEntity_noteRecorded h).trans (sameEntity_setPending h _))

/-- An admission clears the mark of the admitted entity (R152). -/
theorem pendingOf_withAdmitted (hpl : s.payload k = some pl) : (s.withAdmitted k pl).pendingOf k = Pending.clear := by
  have hagree := (agreesBy_setQueue s (s.queue ++ [s.admissionRecord k pl])).trans (agrees_noteRecorded _ k)
  exact pendingOf_setPending_self ((hagree.payload_eq k).trans hpl) _

/-- The admission of the first marked entity takes it, and no other, out of the order. -/
theorem markedKeys_withAdmitted {more : List Key} (hs : s.Sorted) (h : s.markedKeys = k :: more)
    (hpl : s.payload k = some pl) : (s.withAdmitted k pl).markedKeys = more := by
  have hnodup : k ∉ more := (List.nodup_cons.1 (h ▸ s.nodup_markedKeys hs)).1
  have hothers : ∀ j, j ≠ k → (s.withAdmitted k pl).pendingOf j = s.pendingOf j :=
    fun _ hj => (sameEntity_withAdmitted hj).pendingOf_eq
  rw [State.markedKeys_of_cleared hs hs.withAdmitted (pendingOf_withAdmitted hpl) hothers, h]
  rw [List.filter_cons_of_neg (by simp), List.filter_eq_self]
  exact fun j hj => decide_eq_true (ne_of_mem_of_not_mem hj hnodup)

theorem Point.analog?_setRecorded (r : Point) (v : Int) :
    (r.setRecorded v).analog? = r.analog?.map fun a => { a with lastRecorded := v } := by
  obtain ⟨pl, rep, q, c, f, pe, lc, b⟩ := r
  cases b <;> rfl

/-- The last recorded value of an admitted point is the one its record carries (R35). -/
theorem lastRecorded_withAdmitted {p : PointId} {q : Quality} {f : Bool} {g : RangeFlag} {v : Int} {x : Point} {a : Analog}
    (hpl : s.payload (.point p) = some (.point q f g v)) (hx : (s.withAdmitted (.point p) pl).point? p = some x)
    (ha : x.analog? = some a) : a.lastRecorded = v := by
  obtain ⟨r, hr, hpayload⟩ := Option.map_eq_some_iff.1 hpl
  obtain ⟨-, -, -, hv⟩ := Payload.point.inj hpayload
  have hnoted : ((s.setQueue (s.queue ++ [s.admissionRecord (.point p) pl])).noteRecorded (.point p)).point? p
      = some (r.setRecorded v) := by
    rw [State.noteRecorded, State.point?_modifyPoint, if_pos rfl, State.point?_setQueue, hr, ← hv]
    rfl
  have hstored : (s.withAdmitted (.point p) pl).point? p = some { r.setRecorded v with pending := Pending.clear } := by
    rw [State.withAdmitted, State.setPending, State.point?_modifyPoint, if_pos rfl, hnoted]
    rfl
  obtain rfl := Option.some.inj (hstored.symm.trans hx)
  have hanalog : (r.setRecorded v).analog? = some a := ha
  rw [Point.analog?_setRecorded] at hanalog
  obtain ⟨b, -, rfl⟩ := Option.map_eq_some_iff.1 hanalog
  rfl

/-! ### Departures one after another (R152) -/

theorem AgreesBy.tick_eq {fp : Point → Point} {fe : Entry → Entry} (h : AgreesBy fp fe s u) : u.dev.tick = s.dev.tick := by
  have htick := congrArg Device.tick h.dev
  exact htick

/-- Records taken off the queue, before any admission. -/
theorem departs_setQueue (s : State) (rest : List Record) : departs s (s.setQueue rest) (fun _ => false) rest 0 := by
  have hmarks : (s.setQueue rest).markedKeys = (s.markedKeys.filter fun _ => true).drop 0 :=
    (List.filter_true s.markedKeys).symm
  exact ⟨agreesBy_setQueue s rest, [], (List.append_nil rest).symm, rfl, hmarks, by simp,
    fun k _ _ => sameEntity_setQueue s rest k, fun _ => rfl, by simp⟩

/-- The admission that follows one departure, with the queue as the departure left it (R152). -/
theorem departs_admitOne (hs : s.Sorted) : departs s s.admitOne (fun _ => false) s.queue 1 := by
  rcases hmarks : s.markedKeys with _ | ⟨k, more⟩
  · rw [admitOne_of_unmarked hmarks]
    refine ⟨AgreesBy.refl s, [], (List.append_nil _).symm, by simp [hmarks], by simp [hmarks], by simp,
      fun k _ _ => sameEntity.refl s k, fun _ => rfl, by simp⟩
  · obtain ⟨pl, hpl⟩ := s.payload_of_marked ((s.mem_markedKeys hs).1 (hmarks ▸ List.mem_cons_self))
    rw [admitOne_of_marked hmarks hpl]
    refine ⟨agrees_withAdmitted, [s.admissionRecord k pl], queue_withAdmitted, by simp [hmarks, State.admissionRecord],
      by simp [hmarks, markedKeys_withAdmitted hs hmarks hpl], fun j hj => ?_, fun j _ hj => ?_,
      fun p => stampOf_withAdmitted (.point p), fun r hr => ?_⟩
    · obtain rfl : j = k := by simpa [State.admissionRecord] using hj
      exact pendingOf_withAdmitted hpl
    · exact sameEntity_withAdmitted (by simpa [State.admissionRecord] using hj)
    · obtain rfl := List.mem_singleton.1 hr
      refine ⟨hpl, rfl, rfl, fun q f g v p x a hpayload hkey hx ha => ?_⟩
      obtain rfl : k = .point p := hkey
      exact lastRecorded_withAdmitted (hpl.trans (congrArg some hpayload)) hx ha

/-- Departures compose: the admissions of those that follow start from the marks that the first ones left, and no record
admitted in between leaves (R152). -/
theorem departs.trans {j : Nat} (hs : s.Sorted) (hj : j ≤ rest.length) (h : departs s t gone rest m)
    (g : departs t u (fun _ => false) (t.queue.drop j) n) : departs s u gone (rest.drop j) (m + n) := by
  obtain ⟨hagree, first, hqueue, hkeys, hmarks, hclear, hsame, hstamp, hfirst⟩ := h
  obtain ⟨gagree, second, gqueue, gkeys, gmarks, gclear, gsame, gstamp, gsecond⟩ := g
  simp only [Bool.not_false, List.filter_true, hmarks] at gkeys gmarks
  have hdisjoint : ∀ r ∈ first, r.key ∉ second.map Record.key := by
    intro r hr hmem
    rw [gkeys] at hmem
    have hnodup := (s.nodup_markedKeys hs).filter fun k => !gone k
    exact List.disjoint_take_drop hnodup le_rfl (hkeys ▸ List.mem_map_of_mem hr) (List.mem_of_mem_take hmem)
  have hstays : ∀ r ∈ first, sameEntity t u r.key := fun r hr => gsame _ rfl (hdisjoint r hr)
  refine ⟨hagree.trans gagree, first ++ second, ?_, ?_, ?_, fun k hk => ?_, fun k hgone hk => ?_,
    fun p => (gstamp p).trans (hstamp p), fun r hr => ?_⟩
  · rw [gqueue, hqueue, List.drop_append_of_le_length hj, List.append_assoc]
  · rw [List.map_append, hkeys, gkeys, List.take_add]
  · rw [gmarks, List.drop_drop]
  · by_cases hsecond : k ∈ second.map Record.key
    · exact gclear k (.inr hsecond)
    · rw [(gsame k rfl hsecond).pendingOf_eq]
      exact hclear k (hk.imp_right fun hmem => by simpa [hsecond] using hmem)
  · simp only [List.map_append, List.mem_append, not_or] at hk
    exact (hsame k hgone hk.1).trans (gsame k rfl hk.2)
  · rcases List.mem_append.1 hr with hr | hr
    · obtain ⟨hpayload, hfold, htime, hrecorded⟩ := hfirst r hr
      refine ⟨hpayload, hfold, htime, fun q f g v p x a hpl hkey hx => ?_⟩
      have hpoint : u.point? p = t.point? p := by simpa [hkey, sameEntity] using hstays r hr
      exact hrecorded q f g v p x a hpl hkey (hpoint ▸ hx)
    · obtain ⟨hpayload, hfold, htime, hrecorded⟩ := gsecond r hr
      have hmarked : r.key ∈ (s.markedKeys.filter fun k => !gone k).drop m :=
        List.mem_of_mem_take (gkeys ▸ List.mem_map_of_mem hr)
      have hkept : gone r.key = false := by simpa using (List.mem_filter.1 (List.mem_of_mem_drop hmarked)).2
      have hnew : r.key ∉ first.map Record.key := fun hmem => by
        obtain ⟨x, hx, hxr⟩ := List.mem_map.1 hmem
        exact hdisjoint x hx (hxr ▸ List.mem_map_of_mem hr)
      exact ⟨(hagree.payload_eq _).symm.trans hpayload, hfold.trans (congrArg _ (hsame _ hkept hnew).pendingOf_eq),
        htime.trans hagree.tick_eq, hrecorded⟩

/-- The record at the head leaves, followed by its admission (R152). -/
theorem departs_head (hs : s.Sorted) :
    departs s (s.setQueue s.queue.tail).admitOne (fun _ => false) s.queue.tail 1 :=
  (departs_setQueue s s.queue.tail).trans (j := 0) hs (Nat.zero_le _) (departs_admitOne (hs.setQueue _))

/-- The first `n` records leave one at a time, and none that was admitted meanwhile (R152, R157). -/
theorem departs_drain (hs : s.Sorted) (hn : n ≤ s.queue.length) :
    departs s (s.drain n) (fun _ => false) (s.queue.drop n) n := by
  induction n generalizing s with
  | zero => exact departs_setQueue s s.queue
  | succ n ih =>
    obtain ⟨-, admitted, hqueue, -⟩ := departs_head hs
    have htail : n ≤ s.queue.tail.length := by
      rw [List.length_tail]
      omega
    have hrest := ih (hs.setQueue s.queue.tail).admitOne (by rw [hqueue, List.length_append]; omega)
    have hall := (departs_head hs).trans hs htail hrest
    rwa [List.drop_tail, Nat.add_comm 1 n] at hall

/-- The head records, up to 8, leave the queue (R156, R157). -/
theorem departs_drainHead (hs : s.Sorted) :
    departs s s.drainHead (fun _ => false) (s.queue.drop 8) (min 8 s.queue.length) := by
  have hdrop : s.queue.drop 8 = s.queue.drop (min 8 s.queue.length) := by
    rcases le_total 8 s.queue.length with h | h
    · rw [min_eq_left h]
    · rw [min_eq_right h, List.drop_length, List.drop_eq_nil_of_le h]
  rw [State.drainHead, State.headRecords, List.length_take, hdrop]
  exact departs_drain hs (min_le_right _ _)

/-! ### The layout of a record (R184) -/

theorem Key.length_bytes (k : Key) : k.bytes.length = 2 := by
  cases k <;> rfl

theorem Payload.length_bytes (pl : Payload) : pl.bytes.length = 7 := by
  rcases pl with _ | ⟨_, _, _, _ | _, _⟩ | ⟨_, _ | _ | _⟩ | _ <;> rfl

theorem Record.length_bytes (r : Record) : r.bytes.length = 14 := by
  simp [Record.bytes, tickBytes, Key.length_bytes, Payload.length_bytes]

/-! ### The request (R157) -/

/-- The dispatch gives READ CHANGES to the Change Queue (R157). -/
theorem exec_readChanges (tag : Byte) (ps : List Byte) (s : State) :
    exec (.readChanges tag ps) s = runRequest 0x41 tag (readChanges ps) s :=
  rfl

theorem readChanges_badLength {ps : List Byte} (h : ps ≠ []) (s : State) : readChanges ps s = refuse s .badLength :=
  if_pos h

theorem readChanges_taken (s : State) : readChanges [] s = (s.drainHead, .reply .ok (recordsBytes s.headRecords)) :=
  rfl

/-- A READ CHANGES that is taken is answered with the head records, and leaves the queue without them (R157). -/
theorem exec_readChanges_taken (tag : Byte) (ht : Takes s) :
    repliesWith (.readChanges tag []) s 0x41 tag .ok (recordsBytes s.headRecords) (taken s).drainHead :=
  have hreplies : (taken s).drainHead.port.replies = (taken s).port.replies :=
    congrArg Port.replies (agrees_drainHead (taken s)).port
  (exec_readChanges ..).trans (runRequest_answered _ _ ht (readChanges_taken _) hreplies)

/-- An empty queue has no record to remove. -/
theorem drainHead_of_empty (h : s.queue = []) : s.drainHead = s := by
  simp [State.drainHead, State.headRecords, h, State.drain]

/-- Settles O52: the request through `runRequest`, its departures by `departs_drainHead`, a record's bytes part by part. -/
theorem readsChanges : Obligations.ReadsChanges := by
  refine ⟨fun tag ps s ht hps => ?_, fun r => ⟨r.length_bytes, ?_⟩, fun tag s ht hs => ⟨fun hempty _ => ?_, ?_⟩⟩
  · exact (exec_readChanges ..).trans (runRequest_refused _ _ ht (readChanges_badLength hps _))
  · obtain ⟨key, payload, fold, time⟩ := r
    refine congrArg₂ (· ++ ·) (congrArg (· ++ _) ?key) ?payload
    case key => cases key <;> rfl
    case payload => rcases payload with _ | ⟨_, _, _, _ | _, _⟩ | ⟨_, _ | _ | _⟩ | _ <;> rfl
  · have hreply := exec_readChanges_taken tag ht
    rwa [repliesWith, drainHead_of_empty (s := taken s) hempty, State.headRecords, hempty] at hreply
  · have hreply := exec_readChanges_taken tag ht
    rw [recordsBytes, State.headRecords, List.length_take] at hreply
    exact ⟨_, hreply, departs_drainHead (s := taken s) ⟨hs.1, hs.2.1⟩⟩

end Sys2Proof.Machine
end

section
/-! ECHO: its parameters come back, its limit of 197 bytes, and the reply's length byte (R168). -/

namespace Sys2Proof.Machine

/-- The dispatch gives ECHO to the Festoon Port (R168). -/
theorem exec_echo (tag : Byte) (ps : List Byte) (s : State) :
    exec (.echo tag ps) s = runRequest 0x01 tag (echo ps) s :=
  rfl

theorem echo_taken {ps : List Byte} (h : ps.length ≤ 197) (s : State) : echo ps s = (s, .reply .ok ps) :=
  if_neg h.not_gt

theorem echo_badLength {ps : List Byte} (h : 197 < ps.length) (s : State) : echo ps s = refuse s .badLength :=
  if_pos h

/-- A frame's second byte is its L, which covers the code, the tag and the parameters (R182). -/
theorem frameBytes_lengthByte (code tag : Byte) (ps : List Byte) :
    (frameBytes code tag ps)[1]? = some (byteOf (ps.length + 2)) :=
  rfl

/-- A reply's L covers its code, its tag, its status and its data (R182). -/
theorem Reply.bytes_lengthByte (r : Reply) : r.bytes[1]? = some (byteOf (3 + r.data.length)) := by
  rw [Reply.bytes, frameBytes_lengthByte, List.length_cons, Nat.add_assoc, Nat.add_comm]

/-- In RUN with a silence limit a taken request loads the silence monitor afresh (R163 step 1, R179). -/
theorem silenceTimer_taken {s : State} (hm : s.dev.mode = .run) (hl : s.dev.silenceLimit ≠ 0) :
    (taken s).dev.silenceTimer = some (ticksOfMs s.dev.silenceLimit) :=
  if_pos ⟨hm, hl⟩

/-- Settles O49: the request's two outcomes through `runRequest`, the length byte of its reply, and the silence monitor. -/
theorem echoesParameters : Obligations.EchoesParameters := by
  refine fun tag ps s ht => ⟨fun hfits => ⟨?_, Reply.bytes_lengthByte _, by omega⟩, fun hlong => ?_, silenceTimer_taken⟩
  · exact (exec_echo ..).trans (runRequest_answered _ _ ht (echo_taken hfits _) rfl)
  · exact (exec_echo ..).trans (runRequest_refused _ _ ht (echo_badLength hlong _))

end Sys2Proof.Machine
end

section
/-! SET MONITOR: its fields, the DEVICE notice of a changed safe action, and the request (R147, R178). -/

namespace Sys2Proof.Machine

variable {s : State} {k : Key} {pl : Payload}

/-! ### Fields (R183) -/

@[simp] theorem safeActionOf?_code (a : SafeAction) : safeActionOf? a.code = some a := by
  cases a <;> rfl

theorem safeActionOf?_of_ge {b : Byte} (h : 2 ≤ b.toNat) : safeActionOf? b = none := by
  unfold safeActionOf?
  split
  case h_3 => rfl
  all_goals omega

/-- An unsigned field reads back as the number it was. -/
theorem natAt_wordBytes (w : Word16) (rest : List Byte) : natAt (wordBytes w ++ rest) 0 = w.toNat :=
  congrArg BitVec.toNat (wordOf_extractLsb' w)

/-- The range of R178 on the words a field carries. -/
theorem takenLimit_toNat (w : Word16) : takenLimit w.toNat = if w = 0 then 0 else max 50 (min w.toNat 5000) := by
  have hzero : w.toNat = 0 ↔ w = 0 := BitVec.toNat_inj (y := 0)
  simp only [takenLimit, clampNat_eq (show 50 ≤ 5000 by decide), hzero]

/-! ### One notice as the whole of an event (R148 to R150) -/

theorem hasRecord_iff : s.hasRecord k = true ↔ ∃ r ∈ s.queue, r.key = k := by
  simp [State.hasRecord]

/-- Only entities that may report have a record (R149, R155). -/
theorem QueueInv.mayReport_of_hasRecord (h : QueueInv s) (hrec : s.hasRecord k = true) : s.mayReport k = true := by
  obtain ⟨-, -, -, -, hmay, -⟩ := h
  obtain ⟨r, hr, rfl⟩ := hasRecord_iff.1 hrec
  exact hmay r hr

/-- After its notice an entity's record carries its state as it stands. -/
theorem payload_of_mem_takeNotice (hmay : s.hasRecord k = true → s.mayReport k = true) (hpl : s.payload k = some pl)
    {r : Record} (hr : r ∈ (s.takeNotice k).queue) (hk : r.key = k) : r.payload = pl := by
  cases hrec : s.hasRecord k with
  | true =>
    simp only [State.takeNotice, hmay hrec, hpl, hrec, if_true, State.queue_noteRecorded, State.queue_setQueue,
      List.mem_map] at hr
    obtain ⟨r', -, rfl⟩ := hr
    split at hk
    next hk' => rw [if_pos hk', Record.folded]
    next hk' => exact absurd hk hk'
  | false =>
    have hold : r ∉ s.queue := fun hmem => by simp [hasRecord_iff.2 ⟨r, hmem, hk⟩] at hrec
    cases hm : s.mayReport k with
    | false => exact absurd (by simpa [State.takeNotice, hm] using hr) hold
    | true =>
      by_cases hroom : s.queue.length < 64
      · obtain rfl : r = ⟨k, pl, 1, s.dev.tick⟩ := by
          simpa [State.takeNotice, hm, hpl, hrec, queueCapacity, hroom, hold] using hr
        rfl
      · exact absurd (by simpa [State.takeNotice, hm, hpl, hrec, queueCapacity, hroom] using hr) hold

/-- With room in the queue, the notice of an entity that may report leaves its record with the event's tick. -/
theorem exists_record_takeNotice (hmay : s.mayReport k = true) (hpl : s.payload k = some pl)
    (hroom : s.queue.length < 64) :
    ∃ r ∈ (s.takeNotice k).queue, r.key = k ∧ r.payload = pl ∧ r.time = s.dev.tick := by
  cases hrec : s.hasRecord k with
  | true =>
    obtain ⟨r, hr, hk⟩ := hasRecord_iff.1 hrec
    obtain ⟨j, hj⟩ := List.mem_iff_getElem?.1 hr
    exact ⟨_, List.mem_of_getElem? (takeNotice_folds hmay hpl hj hk), rfl, rfl, rfl⟩
  | false => exact ⟨_, List.mem_of_getElem? (takeNotice_appends hmay hpl hrec hroom), rfl, rfl, rfl⟩

/-- A DEVICE record that is up to date is left as it is by the end of an event (R148). -/
theorem refresh_device_of_current (hpl : s.payload .device = some pl)
    (h : ∀ r ∈ s.queue, r.key = .device → r.payload = pl) : s.refresh .device = s := by
  have hsame : (s.queue.map fun r => if r.key = .device then { r with payload := pl } else r) = s.queue := by
    refine (List.map_congr_left fun r hr => ?_).trans (List.map_id _)
    split
    next hk => rw [← h r hr hk, id]
    next => rfl
  simp only [State.refresh, hpl, hsame]
  split <;> rfl

/-- An event that does no more than store the device is one notice of it. -/
theorem event_putDevice (d : Device) (hmay : s.hasRecord .device = true → s.mayReport .device = true) :
    (s.event fun w => w.putDevice d) = (s.setDev d).takeNotice .device := by
  have hpl : (s.setDev d).payload .device = some (.device d.mode d.lastCause d.safeAction) := rfl
  exact refresh_device_of_current (((agrees_takeNotice _ _).payload_eq _).trans hpl) fun r hr hk =>
    payload_of_mem_takeNotice (s := s.setDev d) hmay hpl hr hk

/-- A notice is raised where the action changes, and only there (R147, R178). -/
theorem takeMonitor_eq (limit : Nat) (action : SafeAction)
    (hmay : s.hasRecord .device = true → s.mayReport .device = true) :
    let v := s.setDev { s.dev with silenceLimit := limit, safeAction := action }
    s.takeMonitor limit action = if action = s.dev.safeAction then v else v.takeNotice .device := by
  rw [State.takeMonitor, event_putDevice _ hmay]
  simp only [eq_comm]

/-! ### The request -/

/-- The dispatch gives SET MONITOR to the Mode Controller (R178). -/
theorem exec_setMonitor (tag : Byte) (ps : List Byte) (s : State) :
    exec (.setMonitor tag ps) s = runRequest 0x08 tag (setMonitor ps) s :=
  rfl

theorem setMonitor_notConfig (ps : List Byte) (h : s.dev.mode ≠ .config) : setMonitor ps s = refuse s .mode :=
  if_pos h

theorem setMonitor_badLength {ps : List Byte} (h : s.dev.mode = .config) (hl : ps.length ≠ 3) :
    setMonitor ps s = refuse s .badLength := by
  simp [setMonitor, h, hl]

theorem setMonitor_badValue (time : Word16) {b : Byte} (h : s.dev.mode = .config) (hb : 2 ≤ b.toNat) :
    setMonitor (wordBytes time ++ [b]) s = refuse s .badValue := by
  simp [setMonitor, h, wordBytes, byteAt, safeActionOf?_of_ge hb]

/-- The limit is returned as taken and the action as carried (R178). -/
theorem setMonitor_takes (time : Word16) (action : SafeAction) (h : s.dev.mode = .config) :
    setMonitor (wordBytes time ++ [action.code]) s
      = (s.takeMonitor (takenLimit time.toNat) action,
          .reply .ok (natBytes (takenLimit time.toNat) ++ [action.code])) := by
  have hlen : (wordBytes time ++ [action.code]).length = 3 := rfl
  have haction : safeActionOf? (byteAt (wordBytes time ++ [action.code]) 2) = some action := safeActionOf?_code action
  simp only [setMonitor, h, hlen, haction, natAt_wordBytes, ne_eq, not_true_eq_false, if_false]

/-- Settles O60: each refusal through `runRequest`; what is taken is one notice of the stored device, or none. -/
theorem setsMonitor : Obligations.SetsMonitor := by
  intro tag s ht hq
  refine ⟨fun hm ps => ?_, fun hm ps hl => ?_, fun hm time action => ?_, fun hm time b hb => ?_⟩
  · exact (exec_setMonitor ..).trans (runRequest_refused _ _ ht (setMonitor_notConfig _ hm))
  · exact (exec_setMonitor ..).trans (runRequest_refused _ _ ht (setMonitor_badLength hm hl))
  · intro limit v u
    have hsame (h : action = s.dev.safeAction) : u = v := if_pos h
    have hchanged (h : action ≠ s.dev.safeAction) : u = v.takeNotice .device := if_neg h
    have hwork : setMonitor (wordBytes time ++ [action.code]) (taken s)
        = (u, .reply .ok (natBytes limit ++ [action.code])) := by
      rw [setMonitor_takes (s := taken s) _ _ hm, takenLimit_toNat,
        takeMonitor_eq (s := taken s) _ _ (hq.mayReport_of_hasRecord (k := .device))]
      rfl
    have hagrees : AgreesButQueue v u := by
      by_cases h : action = s.dev.safeAction
      · rw [hsame h]
        exact .refl v
      · rw [hchanged h]
        exact agrees_takeNotice v .device
    have hreplies : u.port.replies = v.port.replies := congrArg Port.replies hagrees.port
    refine ⟨(exec_setMonitor ..).trans (runRequest_answered _ _ ht hwork hreplies), hagrees, fun h hclass hroom => ?_⟩
    have hpl : v.payload .device = some (.device .config s.dev.lastCause action) := by
      rw [← hm]
      rfl
    rw [hchanged h]
    exact exists_record_takeNotice (s := v) hclass hpl hroom
  · exact (exec_setMonitor ..).trans (runRequest_refused _ _ ht (setMonitor_badValue _ hm hb))

end Sys2Proof.Machine
end

section
/-! The check word of R182: the sum with end-around carry, what a receiver accepts, and the change of one covered byte. -/

namespace Sys2Proof.Machine

/-! ### The sum with end-around carry -/

theorem addEndAround_spec {a b : Nat} (ha : a ≤ 65535) (hb : b ≤ 65535) :
    addEndAround a b ≤ 65535 ∧ addEndAround a b % 65535 = (a + b) % 65535 ∧ (addEndAround a b = 0 ↔ a = 0 ∧ b = 0) := by
  unfold addEndAround
  split <;> omega

theorem foldl_addEndAround_spec {ws : List Nat} (hws : ∀ w ∈ ws, w ≤ 65535) {acc : Nat} (hacc : acc ≤ 65535) :
    ws.foldl addEndAround acc ≤ 65535 ∧ ws.foldl addEndAround acc % 65535 = (acc + ws.sum) % 65535 ∧
      (ws.foldl addEndAround acc = 0 ↔ acc = 0 ∧ ∀ w ∈ ws, w = 0) := by
  induction ws generalizing acc with
  | nil => simpa using hacc
  | cons w ws ih =>
    obtain ⟨hw, hrest⟩ := List.forall_mem_cons.1 hws
    obtain ⟨hle, hmod, hzero⟩ := addEndAround_spec hacc hw
    obtain ⟨ihle, ihmod, ihzero⟩ := ih hrest hle
    refine ⟨ihle, ?_, ?_⟩
    · rw [List.foldl_cons, ihmod, Nat.add_mod, hmod, ← Nat.add_mod, List.sum_cons, Nat.add_assoc]
    · rw [List.foldl_cons, ihzero, hzero, List.forall_mem_cons, and_assoc]

theorem bytePairs_le (bs : List Byte) : ∀ w ∈ bytePairs bs, w ≤ 65535 := by
  induction bs using bytePairs.induct with
  | case1 => simp [bytePairs]
  | case2 b => simp only [bytePairs, List.mem_singleton, forall_eq]; omega
  | case3 b c rest ih => exact List.forall_mem_cons.2 ⟨by omega, ih⟩

theorem bytePairs_eq_zero (bs : List Byte) : (∀ w ∈ bytePairs bs, w = 0) ↔ ∀ b ∈ bs, b = 0 := by
  induction bs using bytePairs.induct with
  | case1 => simp [bytePairs]
  | case2 b =>
    rw [bytePairs, List.forall_mem_singleton, List.forall_mem_singleton]
    simp only [BitVec.toNat_eq, BitVec.ofNat_eq_ofNat, BitVec.toNat_ofNat]
    omega
  | case3 b c rest ih =>
    rw [bytePairs, List.forall_mem_cons, ih, List.forall_mem_cons, List.forall_mem_cons, ← and_assoc]
    refine and_congr_left fun _ => ?_
    simp only [BitVec.toNat_eq, BitVec.ofNat_eq_ofNat, BitVec.toNat_ofNat]
    omega

/-- The sum S as R182 gives it: within 16 bits, congruent to the plain sum, and 0 for zero bytes alone. -/
theorem checkSum_spec (bs : List Byte) :
    checkSum bs ≤ 65535 ∧ checkSum bs % 65535 = (bytePairs bs).sum % 65535 ∧ (checkSum bs = 0 ↔ ∀ b ∈ bs, b = 0) := by
  simpa [checkSum, bytePairs_eq_zero] using foldl_addEndAround_spec (bytePairs_le bs) (Nat.zero_le 65535)

/-! ### The check word sent, and what is accepted -/

theorem checkWord_of_full {bs : List Byte} (h : checkSum bs = 65535) : checkWord bs = 0xFFFF := by
  simp [checkWord, h]

theorem checkWord_of_not_full {bs : List Byte} (h : checkSum bs ≠ 65535) :
    checkWord bs = BitVec.ofNat 16 (65535 - checkSum bs) := by
  have hle := (checkSum_spec bs).1
  exact if_neg (by omega)

theorem checkAccepts_iff (bs : List Byte) (c : Word16) :
    checkAccepts bs c = true ↔ checkSum bs + c.toNat = 65535 ∨ checkSum bs = 65535 ∧ c = 0xFFFF := by
  have hle := (checkSum_spec bs).1
  simp only [checkAccepts, Bool.or_eq_true, Bool.and_eq_true, beq_iff_eq]
  exact or_congr (by omega) (and_congr_left fun _ => by omega)

/-- A check word made for some bytes is accepted with others exactly where the two sums are congruent modulo 65535, for which 0 and
65535 are the two forms of one sum (R182). -/
theorem checkAccepts_checkWord_iff (bs cs : List Byte) :
    checkAccepts bs (checkWord cs) = true ↔ checkSum bs % 65535 = checkSum cs % 65535 := by
  have hb := (checkSum_spec bs).1
  have hc := (checkSum_spec cs).1
  rw [checkAccepts_iff]
  by_cases hfull : checkSum cs = 65535
  · rw [checkWord_of_full hfull, hfull]
    simp only [BitVec.ofNat_eq_ofNat, BitVec.toNat_ofNat, and_true]
    omega
  · rw [checkWord_of_not_full hfull]
    simp only [BitVec.toNat_eq, BitVec.ofNat_eq_ofNat, BitVec.toNat_ofNat]
    omega

/-! ### The change of one covered byte -/

/-- A byte enters the sum of the pairs once, times 1 or 256 by its place. -/
theorem sum_bytePairs_of_one_byte (pre post : List Byte) :
    ∃ weight others, (weight = 1 ∨ weight = 256) ∧
      ∀ a : Byte, (bytePairs (pre ++ a :: post)).sum = others + weight * a.toNat := by
  induction pre using bytePairs.induct with
  | case1 =>
    cases post with
    | nil => exact ⟨256, 0, .inr rfl, fun a => by simp [bytePairs, Nat.mul_comm]⟩
    | cons c rest =>
      exact ⟨256, c.toNat + (bytePairs rest).sum, .inr rfl, fun a => by
        simp only [List.nil_append, bytePairs, List.sum_cons]; omega⟩
  | case2 x => exact ⟨1, x.toNat * 256 + (bytePairs post).sum, .inl rfl, fun a => by
      simp only [List.singleton_append, bytePairs, List.sum_cons]; omega⟩
  | case3 x y rest ih =>
    obtain ⟨weight, others, hweight, hsum⟩ := ih
    exact ⟨weight, x.toNat * 256 + y.toNat + others, hweight, fun a => by
      simp only [List.cons_append, bytePairs, List.sum_cons, hsum]; omega⟩

/-- Two messages that differ in one byte have sums that differ modulo 65535. -/
theorem checkSum_mod_ne_of_one_byte (pre post : List Byte) {a b : Byte} (h : a ≠ b) :
    checkSum (pre ++ a :: post) % 65535 ≠ checkSum (pre ++ b :: post) % 65535 := by
  obtain ⟨weight, others, hweight, hsum⟩ := sum_bytePairs_of_one_byte pre post
  have hne : a.toNat ≠ b.toNat := fun he => h (BitVec.eq_of_toNat_eq he)
  rw [(checkSum_spec _).2.1, (checkSum_spec _).2.1, hsum, hsum]
  rcases hweight with rfl | rfl <;> omega

end Sys2Proof.Machine
end

section
/-! A line's lock and silence count stand apart from the handling of a bad telegram, which neither reads nor writes them: the two
may be set before the handling or after it (R100, R103). -/

namespace Sys2Proof.Machine

variable {s : State} {w : Work} {l : LineNo} {k : LockState} {n : Nat}

/-! ### Setting them -/

/-- The line with its lock and silence count set. -/
def Line.withLock (L : Line) (k : LockState) (n : Nat) : Line :=
  { L with lock := k, silence := n }

/-- The state with a line's lock and silence count set. -/
def State.withLock (s : State) (l : LineNo) (k : LockState) (n : Nat) : State :=
  s.setLine l ((s.line l).withLock k n)

/-- The work with a line's lock and silence count set. -/
def Work.withLock (w : Work) (l : LineNo) (k : LockState) (n : Nat) : Work :=
  w.put (w.st.withLock l k n)

theorem Work.withLock_self (w : Work) (l : LineNo) : w.withLock l (w.line l).lock (w.line l).silence = w :=
  congrArg w.put (State.setLine_line w.st l)

/-! ### What reads the same -/

@[simp] theorem State.line_withLock : (s.withLock l k n).line l = (s.line l).withLock k n :=
  State.line_setLine_self ..

@[simp] theorem Work.st_withLock : (w.withLock l k n).st = w.st.withLock l k n := rfl
@[simp] theorem Work.line_withLock : (w.withLock l k n).line l = (w.line l).withLock k n := State.line_withLock
@[simp] theorem State.dev_withLock : (s.withLock l k n).dev = s.dev := rfl
@[simp] theorem State.queue_withLock : (s.withLock l k n).queue = s.queue := rfl
@[simp] theorem State.point?_withLock (p : PointId) : (s.withLock l k n).point? p = s.point? p := rfl
@[simp] theorem State.entry?_withLock (i : EntryIx) : (s.withLock l k n).entry? i = s.entry? i := rfl
@[simp] theorem State.hasRecord_withLock (j : Key) : (s.withLock l k n).hasRecord j = s.hasRecord j := rfl
@[simp] theorem State.derive_withLock (r : Point) (f : DerivedFields) : (s.withLock l k n).derive r f = s.derive r f := rfl

@[simp] theorem State.mayReport_withLock (j : Key) : (s.withLock l k n).mayReport j = s.mayReport j := by
  cases j <;> rfl

theorem State.line_withLock_of_ne {m : LineNo} (h : m ≠ l) : (s.withLock l k n).line m = s.line m :=
  (State.line_setLine ..).trans (if_neg h)

/-- Neither is a reported field (R146). -/
@[simp] theorem State.payload_withLock (j : Key) : (s.withLock l k n).payload j = s.payload j := by
  cases j with
  | line m =>
    by_cases h : m = l
    · subst h; simp only [State.payload, State.line_withLock]; rfl
    · simp only [State.payload, State.line_withLock_of_ne h]
  | _ => rfl

@[simp] theorem State.pendingOf_withLock (j : Key) : (s.withLock l k n).pendingOf j = s.pendingOf j := by
  cases j with
  | line m =>
    by_cases h : m = l
    · subst h; simp only [State.pendingOf, State.line_withLock]; rfl
    · simp only [State.pendingOf, State.line_withLock_of_ne h]
  | _ => rfl

@[simp] theorem Line.state_withLock (L : Line) : (L.withLock k n).state = L.state := rfl
@[simp] theorem Line.receiver_withLock (L : Line) : (L.withLock k n).receiver = L.receiver := rfl
@[simp] theorem Line.sender_withLock (L : Line) : (L.withLock k n).sender = L.sender := rfl
@[simp] theorem Line.exchange_withLock (L : Line) : (L.withLock k n).exchange = L.exchange := rfl
@[simp] theorem Line.transfer_withLock (L : Line) : (L.withLock k n).transfer = L.transfer := rfl

/-! ### Stores -/

theorem State.setPoint_withLock (p : PointId) (r : Point) :
    (s.withLock l k n).setPoint p r = (s.setPoint p r).withLock l k n := rfl

theorem State.setEntry_withLock (i : EntryIx) (e : Entry) :
    (s.withLock l k n).setEntry i e = (s.setEntry i e).withLock l k n := rfl

theorem State.setQueue_withLock (q : List Record) : (s.withLock l k n).setQueue q = (s.setQueue q).withLock l k n := rfl

theorem State.setPort_withLock (p : Port) : (s.withLock l k n).setPort p = (s.setPort p).withLock l k n := rfl

/-- A store of the line itself. -/
theorem State.setLine_withLock (L : Line) : (s.withLock l k n).setLine l (L.withLock k n) = (s.setLine l L).withLock l k n := by
  simp [State.withLock]

theorem State.setLine_withLock_of_ne {m : LineNo} (h : m ≠ l) (L : Line) :
    (s.withLock l k n).setLine m L = (s.setLine m L).withLock l k n := by
  rw [State.withLock, State.withLock, State.line_setLine, if_neg h.symm]
  cases l <;> cases m <;> trivial

theorem State.modifyPoint_withLock (p : PointId) (f : Point → Point) :
    (s.withLock l k n).modifyPoint p f = (s.modifyPoint p f).withLock l k n := by
  unfold State.modifyPoint
  rw [State.point?_withLock]
  cases s.point? p <;> rfl

theorem State.modifyEntry_withLock (i : EntryIx) (f : Entry → Entry) :
    (s.withLock l k n).modifyEntry i f = (s.modifyEntry i f).withLock l k n := by
  unfold State.modifyEntry
  rw [State.entry?_withLock]
  cases s.entry? i <;> rfl

/-! ### Notices (R149 to R151) -/

theorem State.noteRecorded_withLock (j : Key) : (s.withLock l k n).noteRecorded j = (s.noteRecorded j).withLock l k n := by
  cases j with
  | point p => exact State.modifyPoint_withLock p _
  | _ => rfl

theorem State.stamp_withLock (j : Key) : (s.withLock l k n).stamp j = (s.stamp j).withLock l k n := by
  cases j with
  | point p => exact State.modifyPoint_withLock p _
  | _ => rfl

theorem State.setPending_withLock (j : Key) (m : Pending) :
    (s.withLock l k n).setPending j m = (s.setPending j m).withLock l k n := by
  cases j with
  | device => rfl
  | line o =>
    dsimp only [State.setPending]
    by_cases h : o = l
    · subst h
      rw [State.line_withLock]
      exact State.setLine_withLock { s.line o with pending := m }
    · rw [State.line_withLock_of_ne h, State.setLine_withLock_of_ne h]
  | interlock i => exact State.modifyEntry_withLock i _
  | point p => exact State.modifyPoint_withLock p _

theorem State.takeNotice_withLock (j : Key) : (s.withLock l k n).takeNotice j = (s.takeNotice j).withLock l k n := by
  unfold State.takeNotice
  rw [State.mayReport_withLock, State.payload_withLock]
  split
  · simp only [State.hasRecord_withLock, State.queue_withLock, State.dev_withLock, State.pendingOf_withLock,
      State.setQueue_withLock, State.noteRecorded_withLock, State.setPending_withLock, apply_ite (State.withLock · l k n)]
  · rfl

theorem Work.notice_withLock (j : Key) : (w.withLock l k n).notice j = (w.notice j).withLock l k n := by
  unfold Work.notice
  rw [Work.st_withLock, State.stamp_withLock, State.takeNotice_withLock, apply_ite (Work.withLock · l k n)]
  rfl

/-! ### Changes of points (R13, R50, R61, R185) -/

/-- A fold over a list sets them before or after, where each of its steps does. -/
theorem foldl_withLock {α : Type} {f : Work → α → Work} (h : ∀ w a, f (w.withLock l k n) a = (f w a).withLock l k n)
    (as : List α) (w : Work) : as.foldl f (w.withLock l k n) = (as.foldl f w).withLock l k n := by
  induction as generalizing w with
  | nil => rfl
  | cons a as ih => rw [List.foldl_cons, h, ih, List.foldl_cons]

theorem Work.storePoint_withLock (p : PointId) (old new : Point) :
    (w.withLock l k n).storePoint p old new = (w.storePoint p old new).withLock l k n := by
  unfold Work.storePoint
  rw [apply_ite (Work.withLock · l k n), ← Work.notice_withLock]
  rfl

theorem Work.storeEntry_withLock (i : EntryIx) (old new : Entry) :
    (w.withLock l k n).storeEntry i old new = (w.storeEntry i old new).withLock l k n := by
  unfold Work.storeEntry
  rw [apply_ite (Work.withLock · l k n), ← Work.notice_withLock]
  rfl

theorem Work.regate_withLock (p : PointId) : (w.withLock l k n).regate p = (w.regate p).withLock l k n := by
  unfold Work.regate
  rw [Work.st_withLock, State.point?_withLock]
  split
  · split
    · exact Work.storePoint_withLock ..
    · rfl
  · rfl

theorem Work.evalEntry_withLock (changed : List PointId) (w : Work) (i : EntryIx) :
    Work.evalEntry changed (w.withLock l k n) i = (Work.evalEntry changed w i).withLock l k n := by
  unfold Work.evalEntry
  rw [Work.st_withLock, State.entry?_withLock]
  split
  · split
    · rw [Work.storeEntry_withLock, Work.regate_withLock]
      rfl
    · rfl
  · rfl

theorem Work.evaluate_withLock (changed : List PointId) :
    (w.withLock l k n).evaluate changed = (w.evaluate changed).withLock l k n :=
  foldl_withLock (Work.evalEntry_withLock changed) _ w

theorem Work.recompute_withLock (acc : Work × List PointId) (d : PointId) :
    Work.recompute (acc.1.withLock l k n, acc.2) d
      = ((Work.recompute acc d).1.withLock l k n, (Work.recompute acc d).2) := by
  unfold Work.recompute
  rw [Work.st_withLock, State.point?_withLock]
  split
  · split
    · dsimp only
      rw [State.derive_withLock, Work.storePoint_withLock]
    · rfl
  · rfl

theorem recomputes_withLock (ds : List PointId) (acc : Work × List PointId) :
    ds.foldl Work.recompute (acc.1.withLock l k n, acc.2)
      = ((ds.foldl Work.recompute acc).1.withLock l k n, (ds.foldl Work.recompute acc).2) := by
  induction ds generalizing acc with
  | nil => rfl
  | cons d ds ih => rw [List.foldl_cons, Work.recompute_withLock, ih, List.foldl_cons]

theorem Work.handOn_withLock (p : PointId) : (w.withLock l k n).handOn p = (w.handOn p).withLock l k n := by
  unfold Work.handOn
  have hrec := recomputes_withLock (l := l) (k := k) (n := n) (w.st.derivedOf p) (w, [p])
  exact (congrArg (fun r => r.1.evaluate r.2) hrec).trans (Work.evaluate_withLock _)

theorem Work.changePoint_withLock (p : PointId) (old new : Point) :
    (w.withLock l k n).changePoint p old new = (w.changePoint p old new).withLock l k n := by
  unfold Work.changePoint
  dsimp only
  rw [Work.storePoint_withLock]
  split
  · exact Work.handOn_withLock p
  · rfl

theorem Work.moveOne_withLock (next : Quality → Option Quality) (w : Work) (p : PointId) :
    Work.moveOne next (w.withLock l k n) p = (Work.moveOne next w p).withLock l k n := by
  unfold Work.moveOne
  rw [Work.st_withLock, State.point?_withLock]
  split
  · split
    · exact Work.changePoint_withLock ..
    · rfl
  · rfl

theorem Work.moveStation_withLock (m : LineNo) (next : Quality → Option Quality) :
    (w.withLock l k n).moveStation m next = (w.moveStation m next).withLock l k n :=
  foldl_withLock (Work.moveOne_withLock next) _ w

/-! ### Stores of the line -/

theorem Work.setLine_withLock (L : Line) :
    (w.withLock l k n).put ((w.withLock l k n).st.setLine l (L.withLock k n)) = (w.put (w.st.setLine l L)).withLock l k n :=
  congrArg w.put (State.setLine_withLock L)

theorem Work.putLine_withLock (L : Line) :
    (w.withLock l k n).putLine l (L.withLock k n) = (w.putLine l L).withLock l k n := by
  unfold Work.putLine
  dsimp only
  rw [Work.setLine_withLock, Work.line_withLock, Work.notice_withLock, apply_ite (Work.withLock · l k n)]
  rfl

/-! ### The sender (R94) -/

theorem Line.beginTurn_withLock (L : Line) (t : Telegram) : (L.withLock k n).beginTurn t = (L.beginTurn t).withLock k n := by
  unfold Line.beginTurn
  rw [Line.receiver_withLock]
  split <;> rfl

theorem Line.handOver_withLock (L : Line) (t : Telegram) : (L.withLock k n).handOver t = (L.handOver t).withLock k n := by
  unfold Line.handOver
  rw [Line.sender_withLock, Line.beginTurn_withLock]
  split <;> rfl

theorem Line.startWaiting_withLock (L : Line) : (L.withLock k n).startWaiting = L.startWaiting.withLock k n := by
  unfold Line.startWaiting
  rw [Line.sender_withLock, Line.receiver_withLock]
  split <;> rfl

theorem State.recordSent_withLock (st : Station) : (s.withLock l k n).recordSent st = (s.recordSent st).withLock l k n := rfl

/-- An attempt is built from the line's settings and sequence number (R118). -/
theorem State.buildAttempt_withLock (m : Nat) :
    (s.withLock l k n).buildAttempt l m = (s.buildAttempt l m).withLock l k n := by
  unfold State.buildAttempt
  dsimp only [Line.nextTelegramOf]
  rw [State.line_withLock, State.recordSent_withLock, ← State.setLine_withLock, ← Line.handOver_withLock]
  rfl

/-! ### The outcomes of an attempt and of a transfer (R85, R121, R124) -/

theorem Work.grant_withLock : (w.withLock l k n).grant l = (w.grant l).withLock l k n := by
  unfold Work.grant
  dsimp only
  rw [Work.line_withLock, ← Work.moveStation_withLock, ← Work.putLine_withLock]
  rfl

theorem Work.decidePending_withLock : (w.withLock l k n).decidePending l = (w.decidePending l).withLock l k n := by
  unfold Work.decidePending
  simp only [apply_ite (Work.withLock · l k n), ← Work.setLine_withLock, Work.grant_withLock, Work.line_withLock]
  rfl

theorem Work.lossAtLimit_withLock : (w.withLock l k n).lossAtLimit l = (w.lossAtLimit l).withLock l k n := by
  unfold Work.lossAtLimit
  rw [Work.line_withLock, ← Work.moveStation_withLock, ← Work.putLine_withLock]
  rfl

theorem Work.failExchange_withLock : (w.withLock l k n).failExchange l = (w.failExchange l).withLock l k n := by
  unfold Work.failExchange
  simp only [apply_ite (Work.withLock · l k n), ← Work.decidePending_withLock, ← Work.lossAtLimit_withLock,
    ← Work.moveStation_withLock, ← Work.setLine_withLock, Work.line_withLock]
  rfl

theorem Work.attemptEnded_withLock : (w.withLock l k n).attemptEnded l = (w.attemptEnded l).withLock l k n := by
  unfold Work.attemptEnded
  dsimp only
  rw [Work.line_withLock, Line.exchange_withLock]
  split
  · rw [apply_ite (Work.withLock · l k n), ← Work.failExchange_withLock, Work.st_withLock, State.buildAttempt_withLock]
    rfl
  · rfl

theorem State.handReply_withLock (t : Transfer) (status : Status) (data : List Byte) :
    (s.withLock l k n).handReply l t status data = (s.handReply l t status data).withLock l k n := by
  unfold State.handReply
  simp only [apply_ite (State.withLock · l k n), ← State.setPort_withLock, ← State.setLine_withLock, State.line_withLock]
  rfl

theorem State.endTransfer_withLock (status : Status) (data : List Byte) :
    (s.withLock l k n).endTransfer l status data = (s.endTransfer l status data).withLock l k n := by
  unfold State.endTransfer
  dsimp only
  rw [State.line_withLock, Line.transfer_withLock]
  split
  · split
    · rfl
    · rw [← State.handReply_withLock, ← State.setLine_withLock]
      rfl
  · rfl

theorem Work.endTransfer_withLock (status : Status) (data : List Byte) :
    (w.withLock l k n).put ((w.withLock l k n).st.endTransfer l status data)
      = (w.put (w.st.endTransfer l status data)).withLock l k n :=
  congrArg w.put (State.endTransfer_withLock status data)

/-! ### A bad telegram (R103, R104) -/

theorem Work.badReceived_withLock : (w.withLock l k n).badReceived l = (w.badReceived l).withLock l k n := by
  unfold Work.badReceived
  dsimp only
  rw [Work.line_withLock, Line.state_withLock]
  split
  · rw [apply_ite (Work.withLock · l k n), ← Work.attemptEnded_withLock, ← Work.setLine_withLock]
    rfl
  · rw [apply_ite (Work.withLock · l k n), ← Work.endTransfer_withLock, ← Work.setLine_withLock]
    rfl
  · exact Work.setLine_withLock { w.line l with badTelegrams := saturate 65535 (w.line l).badTelegrams }

theorem Work.afterTelegram_withLock : (w.withLock l k n).afterTelegram l = (w.afterTelegram l).withLock l k n := by
  unfold Work.afterTelegram
  rw [Work.line_withLock, Line.startWaiting_withLock, Work.setLine_withLock]

/-- What a failing check word does on a line that listens and has abandoned no reply: the receiver is OUTSIDE, the bad telegram is
handled, and a WAITING turn begins (R94, R103). -/
theorem Work.discardTelegram_badCheck (hlistens : (w.line l).listens = true)
    (hnot : (w.line l).receiver ≠ .abandoning) :
    w.discardTelegram l .badCheck
      = ((w.put (w.st.setLine l { w.line l with receiver := .outside })).badReceived l).afterTelegram l := by
  have habandons : (w.line l).abandons .badCheck = false := by simp [Line.abandons, hnot]
  unfold Work.discardTelegram Work.telegramEnds
  simp only [hlistens, habandons, if_true, Bool.false_eq_true, if_false]
  exact congrArg (fun v : Work => (v.badReceived l).afterTelegram l) (congrArg w.put (State.setLine_line _ l))

theorem Line.listens_of_locked {L : Line} (hlock : L.lock = .locked) (hdriving : L.driving = false) : L.listens = true := by
  simp [Line.listens, hlock, hdriving]

theorem Work.discardTelegram_withLock (hlock : (w.line l).lock = .locked) (hdriving : (w.line l).driving = false)
    (hnot : (w.line l).receiver ≠ .abandoning) (n : Nat) :
    (w.withLock l .locked n).discardTelegram l .badCheck = (w.discardTelegram l .badCheck).withLock l .locked n := by
  have hlistens : ((w.withLock l .locked n).line l).listens = true := by
    rw [Work.line_withLock]; exact Line.listens_of_locked rfl hdriving
  have hnot' : ((w.withLock l .locked n).line l).receiver ≠ .abandoning := by simpa using hnot
  rw [discardTelegram_badCheck hlistens hnot', discardTelegram_badCheck (Line.listens_of_locked hlock hdriving) hnot,
    ← Work.afterTelegram_withLock, ← Work.badReceived_withLock, ← Work.setLine_withLock, Work.line_withLock]
  rfl

/-! ### The silence count after it (R100) -/

theorem Work.noFill_of_counting (hlock : (w.line l).lock = .locked) (hcount : (w.line l).silence + 1 < 2048) :
    w.noFill l = w.withLock l .locked ((w.line l).silence + 1) := by
  have hmin : min ((w.line l).silence + 1) 2048 = (w.line l).silence + 1 := min_eq_left hcount.le
  unfold Work.noFill
  dsimp only
  rw [if_pos hlock, hmin, if_neg hcount.ne, ← hlock]
  rfl

/-- The symbol time of a failing telegram's SHUT may be counted before the telegram is discarded. -/
theorem Work.discardTelegram_noFill (hlock : (w.line l).lock = .locked) (hdriving : (w.line l).driving = false)
    (hnot : (w.line l).receiver ≠ .abandoning) (hcount : (w.line l).silence + 1 < 2048) :
    (w.discardTelegram l .badCheck).noFill l
      = (w.withLock l .locked ((w.line l).silence + 1)).discardTelegram l .badCheck := by
  have hself : w.withLock l .locked (w.line l).silence = w := hlock ▸ w.withLock_self l
  have hkept : w.discardTelegram l .badCheck = (w.discardTelegram l .badCheck).withLock l .locked (w.line l).silence := by
    rw [← discardTelegram_withLock hlock hdriving hnot, hself]
  have hline := (congrArg (Work.line · l) hkept).trans Work.line_withLock
  have hlock' : ((w.discardTelegram l .badCheck).line l).lock = .locked := congrArg Line.lock hline
  have hsilence : ((w.discardTelegram l .badCheck).line l).silence = (w.line l).silence := (congrArg Line.silence hline :)
  rw [noFill_of_counting hlock' (hsilence ▸ hcount), hsilence, discardTelegram_withLock hlock hdriving hnot]

end Sys2Proof.Machine
end

section
/-! A telegram or a frame at its last check byte: how the check word is cut off, and the discard of what fails it. -/

namespace Sys2Proof.Machine

/-! ### Cutting the check word off -/

theorem splitCheck_append (covered : List Byte) (hi lo : Byte) :
    splitCheck (covered ++ [hi, lo]) = (covered, hi ++ lo) := by
  simp [splitCheck, byteAt, wordOf]

theorem bytesOfNibbles_nibblesOf (bs : List Byte) :
    bytesOfNibbles (nibblesOf bs) = bs := by
  induction bs with
  | nil => rfl
  | cons b bs ih =>
    have hb : byteOfNibbles (b.extractLsb' 4 4) (b.extractLsb' 0 4) = b :=
      (BitVec.extractLsb'_append_extractLsb'_eq_extractLsb' rfl).trans BitVec.extractLsb'_eq_self
    exact congrArg₂ List.cons hb ih

/-- The kind stands in the high nibble of the header (11.2). -/
theorem kind_of_header (kind seq : Nibble) : (kind ++ seq : Byte).extractLsb' 4 4 = kind :=
  BitVec.extractLsb'_append_eq_left

/-! ### A telegram that fails its check word (R104) -/

/-- The line listens, has taken a whole REPLY of its length or a SERVICE REPLY of a length in range whose check word fails, and the
code on the pair is SHUT. -/
structure Line.FailsAtShut (L : Line) (code : Code5) (kind seq : Nibble) (body : List Byte) (hi lo : Byte) : Prop where
  lock : L.lock = .locked
  driving : L.driving = false
  length : kind = 2 ∧ body.length + 3 = L.settings.replyLength ∨ kind = 4 ∧ body.length ≤ 24
  receiver : L.receiver = .inside (nibblesOf (((kind ++ seq : Byte) :: body) ++ [hi, lo]))
  fails : checkAccepts ((kind ++ seq : Byte) :: body) (hi ++ lo) = false
  shut : symbolOf (pairCode L.polarity code) = .shut

variable {code : Code5} {kind seq : Nibble} {body : List Byte} {hi lo : Byte}
variable {w : Work} {s : State} {l : LineNo}

theorem telegramShut_nibblesOf {bs : List Byte} (hne : bs ≠ []) :
    w.telegramShut l (nibblesOf bs) = w.telegramBytes l bs := by
  have hlen : (nibblesOf bs).length = bs.length * 2 := by simp [nibblesOf]
  have hpos := List.length_pos_iff.2 hne
  unfold Work.telegramShut
  rw [if_neg, bytesOfNibbles_nibblesOf]
  rintro (hnil | hodd)
  · rw [hnil, List.length_nil] at hlen; omega
  · omega

/-- A REPLY of the line's length or a SERVICE REPLY of a length in range that fails its check word is discarded as such. -/
theorem telegramBytes_badCheck
    (hlen : kind = 2 ∧ body.length + 3 = (w.line l).settings.replyLength ∨ kind = 4 ∧ body.length ≤ 24)
    (hbad : checkAccepts ((kind ++ seq : Byte) :: body) (hi ++ lo) = false) :
    w.telegramBytes l (((kind ++ seq : Byte) :: body) ++ [hi, lo]) = w.discardTelegram l .badCheck := by
  unfold Work.telegramBytes
  dsimp only
  rw [splitCheck_append, hbad, List.cons_append, show byteAt _ 0 = (kind ++ seq : Byte) from rfl, kind_of_header]
  rcases hlen with ⟨rfl, hreply⟩ | ⟨rfl, hservice⟩
  · exact if_neg (by simpa using hreply)
  · exact if_neg (by simp only [List.length_cons, List.length_append, List.length_nil]; omega)

theorem symbolTime_badCheck (h : (w.line l).FailsAtShut code kind seq body hi lo) :
    w.symbolTime l code = (w.discardTelegram l .badCheck).noFill l := by
  unfold Work.symbolTime Work.symbol
  dsimp only
  rw [if_pos h.lock, if_neg (by simp [h.driving]), h.shut, h.receiver, Receiver.taken_inside]
  dsimp only
  rw [telegramShut_nibblesOf (by simp), telegramBytes_badCheck h.length h.fails]

/-! ### The dispatch -/

theorem exec_symbolReceived (l : LineNo) (code : Code5) (h : s.dev.inReset = false) :
    exec (.symbolReceived l code) s = .next ((Work.symbolTime ⟨s, []⟩ l code).finish).choose :=
  runCommand_running (fun s => s.event fun w => w.symbolTime l code) h

theorem exec_badTelegram (l : LineNo) (cause : BadCause) (h : s.dev.inReset = false) :
    exec (.badTelegram l cause) s = .next ((Work.discardTelegram ⟨s, []⟩ l cause).finish).choose :=
  runCommand_running (fun s => s.event fun w => w.discardTelegram l cause) h

theorem exec_characterReceived (v : Byte) (pb stop : Bool) (h : s.dev.inReset = false) :
    exec (.characterReceived v pb stop) s = .next (s.character v pb stop).choose :=
  runCommand_running (fun s => s.character v pb stop) h

/-- At SHUT, the telegram that fails its check word does what BAD_TELEGRAM does, with the symbol time of SHUT counted (R100, R104). -/
theorem exec_symbolReceived_badCheck (hrun : s.dev.inReset = false) (hcount : (s.line l).silence + 1 < 2048)
    (h : (s.line l).FailsAtShut code kind seq body hi lo) :
    exec (.symbolReceived l code) s
      = exec (.badTelegram l .badCheck) (s.setLine l { s.line l with silence := (s.line l).silence + 1 }) := by
  have hnot : (s.line l).receiver ≠ .abandoning := by rw [h.receiver]; exact Receiver.noConfusion
  have hcounted : (Work.mk s []).withLock l .locked ((s.line l).silence + 1)
      = ⟨s.setLine l { s.line l with silence := (s.line l).silence + 1 }, []⟩ := by rw [← h.lock]; rfl
  have hsame : Work.symbolTime ⟨s, []⟩ l code
      = Work.discardTelegram ⟨s.setLine l { s.line l with silence := (s.line l).silence + 1 }, []⟩ l .badCheck := by
    rw [symbolTime_badCheck (w := ⟨s, []⟩) h, ← hcounted]
    exact Work.discardTelegram_noFill (w := ⟨s, []⟩) h.lock h.driving hnot hcount
  rw [exec_symbolReceived l code hrun, hsame]
  exact (exec_badTelegram l .badCheck (s := s.setLine l _) hrun).symm

/-! ### A frame that fails its check word (R161, R162) -/

theorem frameCharacter_badCheck {code tag : Byte} {ps : List Byte} (hfits : ps.length ≤ 198)
    (hbad : checkAccepts (byteOf (ps.length + 2) :: code :: tag :: ps) (hi ++ lo) = false) :
    s.frameCharacter ((byteOf (ps.length + 2) :: code :: tag :: ps) ++ [hi]) lo = s.discardFrame .check := by
  have hlast : (byteOf (ps.length + 2) :: code :: tag :: ps ++ [hi]).length + 1 = (byteOf (ps.length + 2)).toNat + 3 := by
    simp [toNat_byteOf (show ps.length + 2 < 256 by omega)]
  refine (if_pos hlast).trans ?_
  unfold State.frameComplete
  rw [List.append_assoc, List.singleton_append, splitCheck_append]
  exact if_neg (Bool.not_eq_true _ ▸ hbad)

theorem exec_characterReceived_badCheck {code tag : Byte} {ps : List Byte} {g : Nat} {pb : Bool}
    (h : s.dev.inReset = false) (hfits : ps.length ≤ 198)
    (hframer : s.port.framer = .inside ((byteOf (ps.length + 2) :: code :: tag :: ps) ++ [hi]) g)
    (hbad : checkAccepts (byteOf (ps.length + 2) :: code :: tag :: ps) (hi ++ lo) = false)
    (hparity : pb = parityBitOf (parityOf s.dev.parityStrap) lo) :
    endsIn (.characterReceived lo pb true) s (s.discardFrame .check) := by
  have hgood : characterBad (parityOf s.dev.parityStrap) lo pb true = false := by simp [characterBad, hparity]
  refine (exec_characterReceived lo pb true h).trans ?_
  unfold State.character
  dsimp only
  rw [hframer, hgood]
  dsimp only
  rw [if_neg Bool.false_ne_true, frameCharacter_badCheck hfits hbad]

/-! ### The obligation -/

/-- Settles O46: the sum by induction over its pairs, a changed byte by its weight modulo 65535, and a telegram's SHUT by setting the
silence count before the discard. -/
theorem checkWordsHold : Obligations.CheckWordsHold := by
  refine ⟨checkSum_spec, fun a b rest => ⟨rfl, rfl, rfl⟩, fun bs => ⟨checkWord_of_full, checkWord_of_not_full⟩, checkAccepts_iff,
    fun bs => (checkAccepts_checkWord_iff bs bs).2 rfl, fun pre post a b hne => ?_, fun code tag ps _ => rfl, ?_, ?_⟩
  · exact Bool.eq_false_iff.2 fun hacc => checkSum_mod_ne_of_one_byte pre post hne ((checkAccepts_checkWord_iff _ _).1 hacc)
  · intro s code tag hi lo ps g pb hrun covered hfits hframer hbad hparity
    exact exec_characterReceived_badCheck hrun hfits hframer hbad hparity
  · intro s l kind seq body hi lo code hrun L covered hlock hdriving hcount hlen hreceiver hbad hshut
    exact exec_symbolReceived_badCheck hrun hcount ⟨hlock, hdriving, hlen, hreceiver, hbad, hshut⟩

end Sys2Proof.Machine
end
